-- ==== Sys2Proof/Word.lean ====
section
/-! DEFINITION. The value types of the LAPIC-RF block: a byte of the block, a slot value, a register word
(00_scope.md R4, R6; 10_state.md R17). -/

namespace Sys2Proof

/-- One byte of the block, `M[a]` (10_state.md R13). -/
abbrev Byte := BitVec 8

/-- A slot value: 128 bits, every pattern legal for every register type (40_value_ops.md R76). -/
abbrev Slot := BitVec 128

/-- A register word, bits 31 to 0 of a slot (10_state.md R17). -/
abbrev RegWord := BitVec 32

end Sys2Proof
end

