-- ==== Sys2Proof/Machine/Bytes.lean ====
section
/-! DEFINITION. Little-endian byte order, decided once (20_memory.md R31): byte `k` of a value holds its bits `8k+7`
down to `8k`. -/

namespace Sys2Proof.Machine

/-- The first `n` bytes of a value, the least significant first: `TO_BYTES(s)[k] = s[8k+7 : 8k]` (40_value_ops.md
R81), and the bytes `MemWrite` stores (20_memory.md R37). -/
def bytesOf {w : Nat} (n : Nat) (v : BitVec w) : List Byte :=
  (List.range n).map fun k => v.extractLsb' (8 * k) 8

/-- The `w`-bit value whose byte `k` is the `k`-th of the list: `FROM_BYTES(b)[8k+7 : 8k] = b[k]` (R82), and the value
`MemRead` returns (R37). -/
def ofBytes (w : Nat) : List Byte → BitVec w
  | [] => 0#w
  | b :: bs => b.setWidth w ||| (ofBytes w bs <<< 8)

/-- The 16 bytes of a slot value (R81). -/
def slotBytes (v : Slot) : List Byte := bytesOf 16 v

/-- The 4 bytes of a register word (43_regfile_ops.md R190). -/
def wordBytes (v : RegWord) : List Byte := bytesOf 4 v

end Sys2Proof.Machine
end

