-- ==== Sys2Proof/Config.lean ====
section
/-! DEFINITION. The sizes the spec fixes (00_scope.md R4) and the one parameter it leaves open, `BASE`
(00_scope.md R5; 92_eei_decisions.md D18). -/

namespace Sys2Proof.Config

/-- `RF_BYTES`: the block is 1024 bytes (R4). -/
def rfBytes : Nat := 1024

/-- `RF_ALIGN`: the block is aligned to 16 bytes (R4). -/
def rfAlign : Nat := 16

/-- `SLOT_BYTES` (R4). -/
def slotBytes : Nat := 16

/-- `N_SLOTS` (R4). -/
def nSlots : Nat := 64

/-- `WORD_BITS`: the significant bits of a slot (R4). -/
def wordBits : Nat := 32

/-- `PAD_BITS`: the padding bits of a slot (R4). -/
def padBits : Nat := 96

/-- `BITMAP_SLOTS`: the length of each of the three bitmap arrays (R4). -/
def bitmapSlots : Nat := 8

/-- Which 16-byte unit of the address space the block is mapped at. The spec leaves `BASE` OPEN with the premise
`BASE mod 16 = 0` (R5, D18; log 8): nothing can be proved of this value. -/
opaque baseSlot : Nat

/-- `BASE`, a multiple of 16 whatever `baseSlot` is (R34). No launch sets it (log 8, DESIGN CHOICE). -/
def base : Nat := 16 * baseSlot

/-- The absolute address of block offset `a`: `BASE + a` (R37, R41). -/
def absAddr (a : Nat) : Nat := base + a

end Sys2Proof.Config
end

