-- ==== Sys2Proof/Syntax.lean ====
section
/-! DEFINITION. The operations of the LAPIC-RF block as syntax: register types, entries, reserved regions, named fields,
transaction records, and `Instr`, one constructor per row of spec/opcode_table.json. -/

namespace Sys2Proof

/-- The 18 register types (10_state.md R20). -/
inductive RegType where
  | idReg
  | versionReg
  | priorityReg
  | eoiReg
  | logicalDestReg
  | destFormatReg
  | spuriousReg
  | bitmask32Reg
  | errorStatusReg
  | icrLowReg
  | icrHighReg
  | lvtTimerReg
  | lvtThermalReg
  | lvtPerfReg
  | lvtLintReg
  | lvtErrorReg
  | timerCountReg
  | timerDivideReg
  deriving DecidableEq, Repr

/-- The 24 register-file entries in offset order (10_state.md R18). An array entry carries its index, 0 to 7: no other
index names an entry (43_regfile_ops.md R182). -/
inductive Entry where
  | id
  | ver
  | tpr
  | apr
  | ppr
  | eoi
  | ldr
  | dfr
  | svr
  | isr (k : BitVec 3)
  | tmr (k : BitVec 3)
  | irr (k : BitVec 3)
  | esr
  | icrl
  | icrh
  | lvtt
  | lvtth
  | lvtpc
  | lvtl0
  | lvtl1
  | lvterr
  | ticr
  | tccr
  | tdcr
  deriving DecidableEq, Repr

/-- The six reserved regions (10_state.md R19). -/
inductive Region where
  | rsv0
  | rsv1
  | rsv2
  | rsv3
  | rsv4
  | rsv5
  deriving DecidableEq, Repr

/-- The 54 named fields, in the order of 30_encoding.md R55. A field's name carries its register type, so a field
descriptor `T.f` is one constructor. -/
inductive Field where
  /-- `IdReg.id` (R101). -/
  | idRegId
  /-- `VersionReg.version` (R103). -/
  | versionRegVersion
  /-- `VersionReg.max_lvt_entry` (R104). -/
  | versionRegMaxLvtEntry
  /-- `PriorityReg.subclass` (R106). -/
  | priorityRegSubclass
  /-- `PriorityReg.class` (R107). -/
  | priorityRegClass
  /-- `EoiReg.value` (R109). -/
  | eoiRegValue
  /-- `LogicalDestReg.logical_id` (R111). -/
  | logicalDestRegLogicalId
  /-- `DestFormatReg.model` (R113). -/
  | destFormatRegModel
  /-- `SpuriousReg.vector` (R115). -/
  | spuriousRegVector
  /-- `SpuriousReg.enable` (R116). -/
  | spuriousRegEnable
  /-- `SpuriousReg.focus_check` (R117). -/
  | spuriousRegFocusCheck
  /-- `SpuriousReg.eoi_bcast_suppress` (R118). -/
  | spuriousRegEoiBcastSuppress
  /-- `Bitmask32Reg.bits` (R120). -/
  | bitmask32RegBits
  /-- `ErrorStatusReg.send_checksum` (R122). -/
  | errorStatusRegSendChecksum
  /-- `ErrorStatusReg.recv_checksum` (R123). -/
  | errorStatusRegRecvChecksum
  /-- `ErrorStatusReg.send_accept` (R124). -/
  | errorStatusRegSendAccept
  /-- `ErrorStatusReg.recv_accept` (R125). -/
  | errorStatusRegRecvAccept
  /-- `ErrorStatusReg.redirectable_ipi` (R126). -/
  | errorStatusRegRedirectableIpi
  /-- `ErrorStatusReg.send_illegal_vector` (R127). -/
  | errorStatusRegSendIllegalVector
  /-- `ErrorStatusReg.recv_illegal_vector` (R128). -/
  | errorStatusRegRecvIllegalVector
  /-- `ErrorStatusReg.illegal_reg_addr` (R129). -/
  | errorStatusRegIllegalRegAddr
  /-- `IcrLowReg.vector` (R131). -/
  | icrLowRegVector
  /-- `IcrLowReg.delivery_mode` (R132). -/
  | icrLowRegDeliveryMode
  /-- `IcrLowReg.dest_mode` (R133). -/
  | icrLowRegDestMode
  /-- `IcrLowReg.delivery_status` (R134). -/
  | icrLowRegDeliveryStatus
  /-- `IcrLowReg.level` (R135). -/
  | icrLowRegLevel
  /-- `IcrLowReg.trigger_mode` (R136). -/
  | icrLowRegTriggerMode
  /-- `IcrLowReg.shorthand` (R137). -/
  | icrLowRegShorthand
  /-- `IcrHighReg.destination` (R139). -/
  | icrHighRegDestination
  /-- `LvtTimerReg.vector` (R141). -/
  | lvtTimerRegVector
  /-- `LvtTimerReg.delivery_status` (R142). -/
  | lvtTimerRegDeliveryStatus
  /-- `LvtTimerReg.mask` (R143). -/
  | lvtTimerRegMask
  /-- `LvtTimerReg.timer_mode` (R144). -/
  | lvtTimerRegTimerMode
  /-- `LvtThermalReg.vector` (R146). -/
  | lvtThermalRegVector
  /-- `LvtThermalReg.delivery_mode` (R147). -/
  | lvtThermalRegDeliveryMode
  /-- `LvtThermalReg.delivery_status` (R148). -/
  | lvtThermalRegDeliveryStatus
  /-- `LvtThermalReg.mask` (R149). -/
  | lvtThermalRegMask
  /-- `LvtPerfReg.vector` (R151). -/
  | lvtPerfRegVector
  /-- `LvtPerfReg.delivery_mode` (R152). -/
  | lvtPerfRegDeliveryMode
  /-- `LvtPerfReg.delivery_status` (R153). -/
  | lvtPerfRegDeliveryStatus
  /-- `LvtPerfReg.mask` (R154). -/
  | lvtPerfRegMask
  /-- `LvtLintReg.vector` (R156). -/
  | lvtLintRegVector
  /-- `LvtLintReg.delivery_mode` (R157). -/
  | lvtLintRegDeliveryMode
  /-- `LvtLintReg.delivery_status` (R158). -/
  | lvtLintRegDeliveryStatus
  /-- `LvtLintReg.polarity` (R159). -/
  | lvtLintRegPolarity
  /-- `LvtLintReg.remote_irr` (R160). -/
  | lvtLintRegRemoteIrr
  /-- `LvtLintReg.trigger_mode` (R161). -/
  | lvtLintRegTriggerMode
  /-- `LvtLintReg.mask` (R162). -/
  | lvtLintRegMask
  /-- `LvtErrorReg.vector` (R164). -/
  | lvtErrorRegVector
  /-- `LvtErrorReg.delivery_status` (R165). -/
  | lvtErrorRegDeliveryStatus
  /-- `LvtErrorReg.mask` (R166). -/
  | lvtErrorRegMask
  /-- `TimerCountReg.count` (R168). -/
  | timerCountRegCount
  /-- `TimerDivideReg.div_lo` (R170). -/
  | timerDivideRegDivLo
  /-- `TimerDivideReg.div_hi` (R171). -/
  | timerDivideRegDivHi
  deriving DecidableEq, Repr

/-- What a transaction record `TXN` does at its address (30_encoding.md R58): read `n` bytes, or write the bytes of
`data`, the first at the record's address (little-endian, 20_memory.md R31). -/
inductive Access where
  | read (n : Nat)
  | write (data : List Byte)
  deriving DecidableEq, Repr

/-- Why a byte sequence is no operation of the block. The decoder answers with one of these (log 6). -/
inductive DecodeError where
  /-- The bytes end before the operation does. -/
  | truncated
  /-- The head word's class is none of the four. -/
  | unassignedClass
  /-- The operation number is none of the 18 of 30_encoding.md R65. -/
  | unassignedOperation
  /-- The field number is none of the 54 of R55. -/
  | unassignedField
  /-- The type number is none of the 18 of R20. -/
  | unassignedType
  /-- The slot index is that of a reserved slot, which names no entry (30_encoding.md R60). -/
  | slotNamesNoEntry
  /-- The field is not one of the entry's type (40_value_ops.md R91). -/
  | fieldOfAnotherType
  /-- A literal does not fit in the field's width (30_encoding.md R56). -/
  | literalTooWide
  /-- A bit of an operand word that the encoding leaves unused is not zero. -/
  | unusedOperandBits
  /-- No row of the operation map holds the offset; the map is total (R59), so this never happens. -/
  | unmappedOffset
  deriving DecidableEq, Repr

/-- The operations of the hardware, one constructor per row of spec/opcode_table.json, in the table's order. -/
inductive Instr where
  /-- `DEFAULT T` (R77). -/
  | opDefault (t : RegType)
  /-- `GET T.f, s` (R78). -/
  | opGet (f : Field) (x : Slot)
  /-- `WITH T.f, s, v` (R79); `v` in a 32-bit container (R56). -/
  | opWith (f : Field) (x : Slot) (v : RegWord)
  /-- `SET T.f, s, v` (R80), `s` being the slot value the host holds (log 4). -/
  | opSet (f : Field) (v : RegWord)
  /-- `TO_BYTES s` (R81). -/
  | toBytes (x : Slot)
  /-- `FROM_BYTES b` (R82); `b[0]` first. -/
  | fromBytes (b : List Byte)
  /-- `EQ s, t` (R83). -/
  | opEq (x y : Slot)
  /-- `RF_DEFAULT` (R181). -/
  | rfDefault
  /-- `RF_TO_BYTES` (R183). -/
  | rfToBytes
  /-- `RF_FROM_BYTES b` (R184); `b[0]` first. -/
  | rfFromBytes (b : List Byte)
  /-- `RD addr, n` (R185). -/
  | rd (addr n : BitVec 11)
  /-- `WR addr, n, v` (R186): `v` as its `n` bytes, the least significant first. -/
  | wr (addr : BitVec 11) (data : List Byte)
  /-- `RDS E` (R187). -/
  | rds (e : Entry)
  /-- `WRS E, v` (R188). -/
  | wrs (e : Entry) (v : Slot)
  /-- `RDW E` (R189). -/
  | rdw (e : Entry)
  /-- `WRW E, v` (R190). -/
  | wrw (e : Entry) (v : RegWord)
  /-- `GETF E.f` (R191). -/
  | getf (e : Entry) (f : Field)
  /-- `SETF E.f, v` (R192). -/
  | setf (e : Entry) (f : Field) (v : RegWord)
  /-- A transaction at byte `byte` of entry `ID` (R18, R58, R59). -/
  | accId (byte : BitVec 4) (t : Access)
  /-- A transaction at byte `byte` of entry `VER` (R18, R58, R59). -/
  | accVer (byte : BitVec 4) (t : Access)
  /-- A transaction at byte `byte` of entry `TPR` (R18, R58, R59). -/
  | accTpr (byte : BitVec 4) (t : Access)
  /-- A transaction at byte `byte` of entry `APR` (R18, R58, R59). -/
  | accApr (byte : BitVec 4) (t : Access)
  /-- A transaction at byte `byte` of entry `PPR` (R18, R58, R59). -/
  | accPpr (byte : BitVec 4) (t : Access)
  /-- A transaction at byte `byte` of entry `EOI` (R18, R58, R59). -/
  | accEoi (byte : BitVec 4) (t : Access)
  /-- A transaction at byte `byte` of entry `LDR` (R18, R58, R59). -/
  | accLdr (byte : BitVec 4) (t : Access)
  /-- A transaction at byte `byte` of entry `DFR` (R18, R58, R59). -/
  | accDfr (byte : BitVec 4) (t : Access)
  /-- A transaction at byte `byte` of entry `SVR` (R18, R58, R59). -/
  | accSvr (byte : BitVec 4) (t : Access)
  /-- A transaction at byte `byte` of element `k` of `ISR[k]` (R18, R58, R59). -/
  | accIsr (k : BitVec 3) (byte : BitVec 4) (t : Access)
  /-- A transaction at byte `byte` of element `k` of `TMR[k]` (R18, R58, R59). -/
  | accTmr (k : BitVec 3) (byte : BitVec 4) (t : Access)
  /-- A transaction at byte `byte` of element `k` of `IRR[k]` (R18, R58, R59). -/
  | accIrr (k : BitVec 3) (byte : BitVec 4) (t : Access)
  /-- A transaction at byte `byte` of entry `ESR` (R18, R58, R59). -/
  | accEsr (byte : BitVec 4) (t : Access)
  /-- A transaction at byte `byte` of entry `ICRL` (R18, R58, R59). -/
  | accIcrl (byte : BitVec 4) (t : Access)
  /-- A transaction at byte `byte` of entry `ICRH` (R18, R58, R59). -/
  | accIcrh (byte : BitVec 4) (t : Access)
  /-- A transaction at byte `byte` of entry `LVTT` (R18, R58, R59). -/
  | accLvtt (byte : BitVec 4) (t : Access)
  /-- A transaction at byte `byte` of entry `LVTTH` (R18, R58, R59). -/
  | accLvtth (byte : BitVec 4) (t : Access)
  /-- A transaction at byte `byte` of entry `LVTPC` (R18, R58, R59). -/
  | accLvtpc (byte : BitVec 4) (t : Access)
  /-- A transaction at byte `byte` of entry `LVTL0` (R18, R58, R59). -/
  | accLvtl0 (byte : BitVec 4) (t : Access)
  /-- A transaction at byte `byte` of entry `LVTL1` (R18, R58, R59). -/
  | accLvtl1 (byte : BitVec 4) (t : Access)
  /-- A transaction at byte `byte` of entry `LVTERR` (R18, R58, R59). -/
  | accLvterr (byte : BitVec 4) (t : Access)
  /-- A transaction at byte `byte` of entry `TICR` (R18, R58, R59). -/
  | accTicr (byte : BitVec 4) (t : Access)
  /-- A transaction at byte `byte` of entry `TCCR` (R18, R58, R59). -/
  | accTccr (byte : BitVec 4) (t : Access)
  /-- A transaction at byte `byte` of entry `TDCR` (R18, R58, R59). -/
  | accTdcr (byte : BitVec 4) (t : Access)
  /-- A transaction at byte `off` of the row 0x000 of region `RSV0` (R19, R58, R59). -/
  | accRsv0 (off : BitVec 5) (t : Access)
  /-- A transaction at byte `off` of the row 0x040 of region `RSV1` (R19, R58, R59). -/
  | accRsv1 (off : BitVec 6) (t : Access)
  /-- A transaction at byte `off` of the row 0x0C0 of region `RSV2` (R19, R58, R59). -/
  | accRsv2 (off : BitVec 4) (t : Access)
  /-- A transaction at byte `off` of the row 0x290 of region `RSV3` (R19, R58, R59). -/
  | accRsv3Slot41 (off : BitVec 4) (t : Access)
  /-- A transaction at byte `off` of the row 0x2A0 of region `RSV3` (R19, R58, R59). -/
  | accRsv3Slots42To43 (off : BitVec 5) (t : Access)
  /-- A transaction at byte `off` of the row 0x2C0 of region `RSV3` (R19, R58, R59). -/
  | accRsv3Slots44To47 (off : BitVec 6) (t : Access)
  /-- A transaction at byte `off` of the row 0x3A0 of region `RSV4` (R19, R58, R59). -/
  | accRsv4Slots58To59 (off : BitVec 5) (t : Access)
  /-- A transaction at byte `off` of the row 0x3C0 of region `RSV4` (R19, R58, R59). -/
  | accRsv4Slots60To61 (off : BitVec 5) (t : Access)
  /-- A transaction at byte `off` of the row 0x3F0 of region `RSV5` (R19, R58, R59). -/
  | accRsv5 (off : BitVec 4) (t : Access)
  /-- `GET IdReg.id, s` (R101). -/
  | getIdRegId (x : Slot)
  /-- `WITH IdReg.id, s, v` (R101). -/
  | withIdRegId (x : Slot) (v : RegWord)
  /-- `GET VersionReg.version, s` (R103). -/
  | getVersionRegVersion (x : Slot)
  /-- `WITH VersionReg.version, s, v` (R103). -/
  | withVersionRegVersion (x : Slot) (v : RegWord)
  /-- `GET VersionReg.max_lvt_entry, s` (R104). -/
  | getVersionRegMaxLvtEntry (x : Slot)
  /-- `WITH VersionReg.max_lvt_entry, s, v` (R104). -/
  | withVersionRegMaxLvtEntry (x : Slot) (v : RegWord)
  /-- `GET PriorityReg.subclass, s` (R106). -/
  | getPriorityRegSubclass (x : Slot)
  /-- `WITH PriorityReg.subclass, s, v` (R106). -/
  | withPriorityRegSubclass (x : Slot) (v : RegWord)
  /-- `GET PriorityReg.class, s` (R107). -/
  | getPriorityRegClass (x : Slot)
  /-- `WITH PriorityReg.class, s, v` (R107). -/
  | withPriorityRegClass (x : Slot) (v : RegWord)
  /-- `GET EoiReg.value, s` (R109). -/
  | getEoiRegValue (x : Slot)
  /-- `WITH EoiReg.value, s, v` (R109). -/
  | withEoiRegValue (x : Slot) (v : RegWord)
  /-- `GET LogicalDestReg.logical_id, s` (R111). -/
  | getLogicalDestRegLogicalId (x : Slot)
  /-- `WITH LogicalDestReg.logical_id, s, v` (R111). -/
  | withLogicalDestRegLogicalId (x : Slot) (v : RegWord)
  /-- `GET DestFormatReg.model, s` (R113). -/
  | getDestFormatRegModel (x : Slot)
  /-- `WITH DestFormatReg.model, s, v` (R113). -/
  | withDestFormatRegModel (x : Slot) (v : RegWord)
  /-- `GET SpuriousReg.vector, s` (R115). -/
  | getSpuriousRegVector (x : Slot)
  /-- `WITH SpuriousReg.vector, s, v` (R115). -/
  | withSpuriousRegVector (x : Slot) (v : RegWord)
  /-- `GET SpuriousReg.enable, s` (R116). -/
  | getSpuriousRegEnable (x : Slot)
  /-- `WITH SpuriousReg.enable, s, v` (R116). -/
  | withSpuriousRegEnable (x : Slot) (v : RegWord)
  /-- `GET SpuriousReg.focus_check, s` (R117). -/
  | getSpuriousRegFocusCheck (x : Slot)
  /-- `WITH SpuriousReg.focus_check, s, v` (R117). -/
  | withSpuriousRegFocusCheck (x : Slot) (v : RegWord)
  /-- `GET SpuriousReg.eoi_bcast_suppress, s` (R118). -/
  | getSpuriousRegEoiBcastSuppress (x : Slot)
  /-- `WITH SpuriousReg.eoi_bcast_suppress, s, v` (R118). -/
  | withSpuriousRegEoiBcastSuppress (x : Slot) (v : RegWord)
  /-- `GET Bitmask32Reg.bits, s` (R120). -/
  | getBitmask32RegBits (x : Slot)
  /-- `WITH Bitmask32Reg.bits, s, v` (R120). -/
  | withBitmask32RegBits (x : Slot) (v : RegWord)
  /-- `GET ErrorStatusReg.send_checksum, s` (R122). -/
  | getErrorStatusRegSendChecksum (x : Slot)
  /-- `WITH ErrorStatusReg.send_checksum, s, v` (R122). -/
  | withErrorStatusRegSendChecksum (x : Slot) (v : RegWord)
  /-- `GET ErrorStatusReg.recv_checksum, s` (R123). -/
  | getErrorStatusRegRecvChecksum (x : Slot)
  /-- `WITH ErrorStatusReg.recv_checksum, s, v` (R123). -/
  | withErrorStatusRegRecvChecksum (x : Slot) (v : RegWord)
  /-- `GET ErrorStatusReg.send_accept, s` (R124). -/
  | getErrorStatusRegSendAccept (x : Slot)
  /-- `WITH ErrorStatusReg.send_accept, s, v` (R124). -/
  | withErrorStatusRegSendAccept (x : Slot) (v : RegWord)
  /-- `GET ErrorStatusReg.recv_accept, s` (R125). -/
  | getErrorStatusRegRecvAccept (x : Slot)
  /-- `WITH ErrorStatusReg.recv_accept, s, v` (R125). -/
  | withErrorStatusRegRecvAccept (x : Slot) (v : RegWord)
  /-- `GET ErrorStatusReg.redirectable_ipi, s` (R126). -/
  | getErrorStatusRegRedirectableIpi (x : Slot)
  /-- `WITH ErrorStatusReg.redirectable_ipi, s, v` (R126). -/
  | withErrorStatusRegRedirectableIpi (x : Slot) (v : RegWord)
  /-- `GET ErrorStatusReg.send_illegal_vector, s` (R127). -/
  | getErrorStatusRegSendIllegalVector (x : Slot)
  /-- `WITH ErrorStatusReg.send_illegal_vector, s, v` (R127). -/
  | withErrorStatusRegSendIllegalVector (x : Slot) (v : RegWord)
  /-- `GET ErrorStatusReg.recv_illegal_vector, s` (R128). -/
  | getErrorStatusRegRecvIllegalVector (x : Slot)
  /-- `WITH ErrorStatusReg.recv_illegal_vector, s, v` (R128). -/
  | withErrorStatusRegRecvIllegalVector (x : Slot) (v : RegWord)
  /-- `GET ErrorStatusReg.illegal_reg_addr, s` (R129). -/
  | getErrorStatusRegIllegalRegAddr (x : Slot)
  /-- `WITH ErrorStatusReg.illegal_reg_addr, s, v` (R129). -/
  | withErrorStatusRegIllegalRegAddr (x : Slot) (v : RegWord)
  /-- `GET IcrLowReg.vector, s` (R131). -/
  | getIcrLowRegVector (x : Slot)
  /-- `WITH IcrLowReg.vector, s, v` (R131). -/
  | withIcrLowRegVector (x : Slot) (v : RegWord)
  /-- `GET IcrLowReg.delivery_mode, s` (R132). -/
  | getIcrLowRegDeliveryMode (x : Slot)
  /-- `WITH IcrLowReg.delivery_mode, s, v` (R132). -/
  | withIcrLowRegDeliveryMode (x : Slot) (v : RegWord)
  /-- `GET IcrLowReg.dest_mode, s` (R133). -/
  | getIcrLowRegDestMode (x : Slot)
  /-- `WITH IcrLowReg.dest_mode, s, v` (R133). -/
  | withIcrLowRegDestMode (x : Slot) (v : RegWord)
  /-- `GET IcrLowReg.delivery_status, s` (R134). -/
  | getIcrLowRegDeliveryStatus (x : Slot)
  /-- `WITH IcrLowReg.delivery_status, s, v` (R134). -/
  | withIcrLowRegDeliveryStatus (x : Slot) (v : RegWord)
  /-- `GET IcrLowReg.level, s` (R135). -/
  | getIcrLowRegLevel (x : Slot)
  /-- `WITH IcrLowReg.level, s, v` (R135). -/
  | withIcrLowRegLevel (x : Slot) (v : RegWord)
  /-- `GET IcrLowReg.trigger_mode, s` (R136). -/
  | getIcrLowRegTriggerMode (x : Slot)
  /-- `WITH IcrLowReg.trigger_mode, s, v` (R136). -/
  | withIcrLowRegTriggerMode (x : Slot) (v : RegWord)
  /-- `GET IcrLowReg.shorthand, s` (R137). -/
  | getIcrLowRegShorthand (x : Slot)
  /-- `WITH IcrLowReg.shorthand, s, v` (R137). -/
  | withIcrLowRegShorthand (x : Slot) (v : RegWord)
  /-- `GET IcrHighReg.destination, s` (R139). -/
  | getIcrHighRegDestination (x : Slot)
  /-- `WITH IcrHighReg.destination, s, v` (R139). -/
  | withIcrHighRegDestination (x : Slot) (v : RegWord)
  /-- `GET LvtTimerReg.vector, s` (R141). -/
  | getLvtTimerRegVector (x : Slot)
  /-- `WITH LvtTimerReg.vector, s, v` (R141). -/
  | withLvtTimerRegVector (x : Slot) (v : RegWord)
  /-- `GET LvtTimerReg.delivery_status, s` (R142). -/
  | getLvtTimerRegDeliveryStatus (x : Slot)
  /-- `WITH LvtTimerReg.delivery_status, s, v` (R142). -/
  | withLvtTimerRegDeliveryStatus (x : Slot) (v : RegWord)
  /-- `GET LvtTimerReg.mask, s` (R143). -/
  | getLvtTimerRegMask (x : Slot)
  /-- `WITH LvtTimerReg.mask, s, v` (R143). -/
  | withLvtTimerRegMask (x : Slot) (v : RegWord)
  /-- `GET LvtTimerReg.timer_mode, s` (R144). -/
  | getLvtTimerRegTimerMode (x : Slot)
  /-- `WITH LvtTimerReg.timer_mode, s, v` (R144). -/
  | withLvtTimerRegTimerMode (x : Slot) (v : RegWord)
  /-- `GET LvtThermalReg.vector, s` (R146). -/
  | getLvtThermalRegVector (x : Slot)
  /-- `WITH LvtThermalReg.vector, s, v` (R146). -/
  | withLvtThermalRegVector (x : Slot) (v : RegWord)
  /-- `GET LvtThermalReg.delivery_mode, s` (R147). -/
  | getLvtThermalRegDeliveryMode (x : Slot)
  /-- `WITH LvtThermalReg.delivery_mode, s, v` (R147). -/
  | withLvtThermalRegDeliveryMode (x : Slot) (v : RegWord)
  /-- `GET LvtThermalReg.delivery_status, s` (R148). -/
  | getLvtThermalRegDeliveryStatus (x : Slot)
  /-- `WITH LvtThermalReg.delivery_status, s, v` (R148). -/
  | withLvtThermalRegDeliveryStatus (x : Slot) (v : RegWord)
  /-- `GET LvtThermalReg.mask, s` (R149). -/
  | getLvtThermalRegMask (x : Slot)
  /-- `WITH LvtThermalReg.mask, s, v` (R149). -/
  | withLvtThermalRegMask (x : Slot) (v : RegWord)
  /-- `GET LvtPerfReg.vector, s` (R151). -/
  | getLvtPerfRegVector (x : Slot)
  /-- `WITH LvtPerfReg.vector, s, v` (R151). -/
  | withLvtPerfRegVector (x : Slot) (v : RegWord)
  /-- `GET LvtPerfReg.delivery_mode, s` (R152). -/
  | getLvtPerfRegDeliveryMode (x : Slot)
  /-- `WITH LvtPerfReg.delivery_mode, s, v` (R152). -/
  | withLvtPerfRegDeliveryMode (x : Slot) (v : RegWord)
  /-- `GET LvtPerfReg.delivery_status, s` (R153). -/
  | getLvtPerfRegDeliveryStatus (x : Slot)
  /-- `WITH LvtPerfReg.delivery_status, s, v` (R153). -/
  | withLvtPerfRegDeliveryStatus (x : Slot) (v : RegWord)
  /-- `GET LvtPerfReg.mask, s` (R154). -/
  | getLvtPerfRegMask (x : Slot)
  /-- `WITH LvtPerfReg.mask, s, v` (R154). -/
  | withLvtPerfRegMask (x : Slot) (v : RegWord)
  /-- `GET LvtLintReg.vector, s` (R156). -/
  | getLvtLintRegVector (x : Slot)
  /-- `WITH LvtLintReg.vector, s, v` (R156). -/
  | withLvtLintRegVector (x : Slot) (v : RegWord)
  /-- `GET LvtLintReg.delivery_mode, s` (R157). -/
  | getLvtLintRegDeliveryMode (x : Slot)
  /-- `WITH LvtLintReg.delivery_mode, s, v` (R157). -/
  | withLvtLintRegDeliveryMode (x : Slot) (v : RegWord)
  /-- `GET LvtLintReg.delivery_status, s` (R158). -/
  | getLvtLintRegDeliveryStatus (x : Slot)
  /-- `WITH LvtLintReg.delivery_status, s, v` (R158). -/
  | withLvtLintRegDeliveryStatus (x : Slot) (v : RegWord)
  /-- `GET LvtLintReg.polarity, s` (R159). -/
  | getLvtLintRegPolarity (x : Slot)
  /-- `WITH LvtLintReg.polarity, s, v` (R159). -/
  | withLvtLintRegPolarity (x : Slot) (v : RegWord)
  /-- `GET LvtLintReg.remote_irr, s` (R160). -/
  | getLvtLintRegRemoteIrr (x : Slot)
  /-- `WITH LvtLintReg.remote_irr, s, v` (R160). -/
  | withLvtLintRegRemoteIrr (x : Slot) (v : RegWord)
  /-- `GET LvtLintReg.trigger_mode, s` (R161). -/
  | getLvtLintRegTriggerMode (x : Slot)
  /-- `WITH LvtLintReg.trigger_mode, s, v` (R161). -/
  | withLvtLintRegTriggerMode (x : Slot) (v : RegWord)
  /-- `GET LvtLintReg.mask, s` (R162). -/
  | getLvtLintRegMask (x : Slot)
  /-- `WITH LvtLintReg.mask, s, v` (R162). -/
  | withLvtLintRegMask (x : Slot) (v : RegWord)
  /-- `GET LvtErrorReg.vector, s` (R164). -/
  | getLvtErrorRegVector (x : Slot)
  /-- `WITH LvtErrorReg.vector, s, v` (R164). -/
  | withLvtErrorRegVector (x : Slot) (v : RegWord)
  /-- `GET LvtErrorReg.delivery_status, s` (R165). -/
  | getLvtErrorRegDeliveryStatus (x : Slot)
  /-- `WITH LvtErrorReg.delivery_status, s, v` (R165). -/
  | withLvtErrorRegDeliveryStatus (x : Slot) (v : RegWord)
  /-- `GET LvtErrorReg.mask, s` (R166). -/
  | getLvtErrorRegMask (x : Slot)
  /-- `WITH LvtErrorReg.mask, s, v` (R166). -/
  | withLvtErrorRegMask (x : Slot) (v : RegWord)
  /-- `GET TimerCountReg.count, s` (R168). -/
  | getTimerCountRegCount (x : Slot)
  /-- `WITH TimerCountReg.count, s, v` (R168). -/
  | withTimerCountRegCount (x : Slot) (v : RegWord)
  /-- `GET TimerDivideReg.div_lo, s` (R170). -/
  | getTimerDivideRegDivLo (x : Slot)
  /-- `WITH TimerDivideReg.div_lo, s, v` (R170). -/
  | withTimerDivideRegDivLo (x : Slot) (v : RegWord)
  /-- `GET TimerDivideReg.div_hi, s` (R171). -/
  | getTimerDivideRegDivHi (x : Slot)
  /-- `WITH TimerDivideReg.div_hi, s, v` (R171). -/
  | withTimerDivideRegDivHi (x : Slot) (v : RegWord)
  deriving DecidableEq, Repr

end Sys2Proof
end

