-- ==== Sys2Proof/Machine/Layout.lean ====
section
/-! DEFINITION. The layouts: where every entry and region lies (10_state.md R18, R19), which type an entry has (R18, R20),
and which bits of a slot every named field takes (30_encoding.md R54, R55). -/

namespace Sys2Proof

/-- The byte count `n` of an access (30_encoding.md R58). -/
def Access.size : Access → Nat
  | .read n => n
  | .write d => d.length

/-- The register type a named field belongs to (30_encoding.md R55). -/
def Field.regType : Field → RegType
  | .idRegId => .idReg
  | .versionRegVersion => .versionReg
  | .versionRegMaxLvtEntry => .versionReg
  | .priorityRegSubclass => .priorityReg
  | .priorityRegClass => .priorityReg
  | .eoiRegValue => .eoiReg
  | .logicalDestRegLogicalId => .logicalDestReg
  | .destFormatRegModel => .destFormatReg
  | .spuriousRegVector => .spuriousReg
  | .spuriousRegEnable => .spuriousReg
  | .spuriousRegFocusCheck => .spuriousReg
  | .spuriousRegEoiBcastSuppress => .spuriousReg
  | .bitmask32RegBits => .bitmask32Reg
  | .errorStatusRegSendChecksum => .errorStatusReg
  | .errorStatusRegRecvChecksum => .errorStatusReg
  | .errorStatusRegSendAccept => .errorStatusReg
  | .errorStatusRegRecvAccept => .errorStatusReg
  | .errorStatusRegRedirectableIpi => .errorStatusReg
  | .errorStatusRegSendIllegalVector => .errorStatusReg
  | .errorStatusRegRecvIllegalVector => .errorStatusReg
  | .errorStatusRegIllegalRegAddr => .errorStatusReg
  | .icrLowRegVector => .icrLowReg
  | .icrLowRegDeliveryMode => .icrLowReg
  | .icrLowRegDestMode => .icrLowReg
  | .icrLowRegDeliveryStatus => .icrLowReg
  | .icrLowRegLevel => .icrLowReg
  | .icrLowRegTriggerMode => .icrLowReg
  | .icrLowRegShorthand => .icrLowReg
  | .icrHighRegDestination => .icrHighReg
  | .lvtTimerRegVector => .lvtTimerReg
  | .lvtTimerRegDeliveryStatus => .lvtTimerReg
  | .lvtTimerRegMask => .lvtTimerReg
  | .lvtTimerRegTimerMode => .lvtTimerReg
  | .lvtThermalRegVector => .lvtThermalReg
  | .lvtThermalRegDeliveryMode => .lvtThermalReg
  | .lvtThermalRegDeliveryStatus => .lvtThermalReg
  | .lvtThermalRegMask => .lvtThermalReg
  | .lvtPerfRegVector => .lvtPerfReg
  | .lvtPerfRegDeliveryMode => .lvtPerfReg
  | .lvtPerfRegDeliveryStatus => .lvtPerfReg
  | .lvtPerfRegMask => .lvtPerfReg
  | .lvtLintRegVector => .lvtLintReg
  | .lvtLintRegDeliveryMode => .lvtLintReg
  | .lvtLintRegDeliveryStatus => .lvtLintReg
  | .lvtLintRegPolarity => .lvtLintReg
  | .lvtLintRegRemoteIrr => .lvtLintReg
  | .lvtLintRegTriggerMode => .lvtLintReg
  | .lvtLintRegMask => .lvtLintReg
  | .lvtErrorRegVector => .lvtErrorReg
  | .lvtErrorRegDeliveryStatus => .lvtErrorReg
  | .lvtErrorRegMask => .lvtErrorReg
  | .timerCountRegCount => .timerCountReg
  | .timerDivideRegDivLo => .timerDivideReg
  | .timerDivideRegDivHi => .timerDivideReg

/-- The bit offset `lsb` of a named field in the slot (00_scope.md R7; one rule per field, R101 to R171). -/
def Field.lsb : Field → Nat
  | .idRegId => 24
  | .versionRegVersion => 0
  | .versionRegMaxLvtEntry => 16
  | .priorityRegSubclass => 0
  | .priorityRegClass => 4
  | .eoiRegValue => 0
  | .logicalDestRegLogicalId => 24
  | .destFormatRegModel => 28
  | .spuriousRegVector => 0
  | .spuriousRegEnable => 8
  | .spuriousRegFocusCheck => 9
  | .spuriousRegEoiBcastSuppress => 12
  | .bitmask32RegBits => 0
  | .errorStatusRegSendChecksum => 0
  | .errorStatusRegRecvChecksum => 1
  | .errorStatusRegSendAccept => 2
  | .errorStatusRegRecvAccept => 3
  | .errorStatusRegRedirectableIpi => 4
  | .errorStatusRegSendIllegalVector => 5
  | .errorStatusRegRecvIllegalVector => 6
  | .errorStatusRegIllegalRegAddr => 7
  | .icrLowRegVector => 0
  | .icrLowRegDeliveryMode => 8
  | .icrLowRegDestMode => 11
  | .icrLowRegDeliveryStatus => 12
  | .icrLowRegLevel => 14
  | .icrLowRegTriggerMode => 15
  | .icrLowRegShorthand => 18
  | .icrHighRegDestination => 24
  | .lvtTimerRegVector => 0
  | .lvtTimerRegDeliveryStatus => 12
  | .lvtTimerRegMask => 16
  | .lvtTimerRegTimerMode => 17
  | .lvtThermalRegVector => 0
  | .lvtThermalRegDeliveryMode => 8
  | .lvtThermalRegDeliveryStatus => 12
  | .lvtThermalRegMask => 16
  | .lvtPerfRegVector => 0
  | .lvtPerfRegDeliveryMode => 8
  | .lvtPerfRegDeliveryStatus => 12
  | .lvtPerfRegMask => 16
  | .lvtLintRegVector => 0
  | .lvtLintRegDeliveryMode => 8
  | .lvtLintRegDeliveryStatus => 12
  | .lvtLintRegPolarity => 13
  | .lvtLintRegRemoteIrr => 14
  | .lvtLintRegTriggerMode => 15
  | .lvtLintRegMask => 16
  | .lvtErrorRegVector => 0
  | .lvtErrorRegDeliveryStatus => 12
  | .lvtErrorRegMask => 16
  | .timerCountRegCount => 0
  | .timerDivideRegDivLo => 0
  | .timerDivideRegDivHi => 3

/-- The width `w` of a named field (00_scope.md R7; one rule per field, R101 to R171). -/
def Field.width : Field → Nat
  | .idRegId => 4
  | .versionRegVersion => 8
  | .versionRegMaxLvtEntry => 8
  | .priorityRegSubclass => 4
  | .priorityRegClass => 4
  | .eoiRegValue => 32
  | .logicalDestRegLogicalId => 8
  | .destFormatRegModel => 4
  | .spuriousRegVector => 8
  | .spuriousRegEnable => 1
  | .spuriousRegFocusCheck => 1
  | .spuriousRegEoiBcastSuppress => 1
  | .bitmask32RegBits => 32
  | .errorStatusRegSendChecksum => 1
  | .errorStatusRegRecvChecksum => 1
  | .errorStatusRegSendAccept => 1
  | .errorStatusRegRecvAccept => 1
  | .errorStatusRegRedirectableIpi => 1
  | .errorStatusRegSendIllegalVector => 1
  | .errorStatusRegRecvIllegalVector => 1
  | .errorStatusRegIllegalRegAddr => 1
  | .icrLowRegVector => 8
  | .icrLowRegDeliveryMode => 3
  | .icrLowRegDestMode => 1
  | .icrLowRegDeliveryStatus => 1
  | .icrLowRegLevel => 1
  | .icrLowRegTriggerMode => 1
  | .icrLowRegShorthand => 2
  | .icrHighRegDestination => 8
  | .lvtTimerRegVector => 8
  | .lvtTimerRegDeliveryStatus => 1
  | .lvtTimerRegMask => 1
  | .lvtTimerRegTimerMode => 1
  | .lvtThermalRegVector => 8
  | .lvtThermalRegDeliveryMode => 3
  | .lvtThermalRegDeliveryStatus => 1
  | .lvtThermalRegMask => 1
  | .lvtPerfRegVector => 8
  | .lvtPerfRegDeliveryMode => 3
  | .lvtPerfRegDeliveryStatus => 1
  | .lvtPerfRegMask => 1
  | .lvtLintRegVector => 8
  | .lvtLintRegDeliveryMode => 3
  | .lvtLintRegDeliveryStatus => 1
  | .lvtLintRegPolarity => 1
  | .lvtLintRegRemoteIrr => 1
  | .lvtLintRegTriggerMode => 1
  | .lvtLintRegMask => 1
  | .lvtErrorRegVector => 8
  | .lvtErrorRegDeliveryStatus => 1
  | .lvtErrorRegMask => 1
  | .timerCountRegCount => 32
  | .timerDivideRegDivLo => 2
  | .timerDivideRegDivHi => 1

/-- The named fields of a register type, low to high (30_encoding.md R54, R55). -/
def RegType.fields : RegType → List Field
  | .idReg => [.idRegId]
  | .versionReg => [.versionRegVersion, .versionRegMaxLvtEntry]
  | .priorityReg => [.priorityRegSubclass, .priorityRegClass]
  | .eoiReg => [.eoiRegValue]
  | .logicalDestReg => [.logicalDestRegLogicalId]
  | .destFormatReg => [.destFormatRegModel]
  | .spuriousReg => [.spuriousRegVector, .spuriousRegEnable, .spuriousRegFocusCheck, .spuriousRegEoiBcastSuppress]
  | .bitmask32Reg => [.bitmask32RegBits]
  | .errorStatusReg => [.errorStatusRegSendChecksum, .errorStatusRegRecvChecksum, .errorStatusRegSendAccept, .errorStatusRegRecvAccept, .errorStatusRegRedirectableIpi, .errorStatusRegSendIllegalVector, .errorStatusRegRecvIllegalVector, .errorStatusRegIllegalRegAddr]
  | .icrLowReg => [.icrLowRegVector, .icrLowRegDeliveryMode, .icrLowRegDestMode, .icrLowRegDeliveryStatus, .icrLowRegLevel, .icrLowRegTriggerMode, .icrLowRegShorthand]
  | .icrHighReg => [.icrHighRegDestination]
  | .lvtTimerReg => [.lvtTimerRegVector, .lvtTimerRegDeliveryStatus, .lvtTimerRegMask, .lvtTimerRegTimerMode]
  | .lvtThermalReg => [.lvtThermalRegVector, .lvtThermalRegDeliveryMode, .lvtThermalRegDeliveryStatus, .lvtThermalRegMask]
  | .lvtPerfReg => [.lvtPerfRegVector, .lvtPerfRegDeliveryMode, .lvtPerfRegDeliveryStatus, .lvtPerfRegMask]
  | .lvtLintReg => [.lvtLintRegVector, .lvtLintRegDeliveryMode, .lvtLintRegDeliveryStatus, .lvtLintRegPolarity, .lvtLintRegRemoteIrr, .lvtLintRegTriggerMode, .lvtLintRegMask]
  | .lvtErrorReg => [.lvtErrorRegVector, .lvtErrorRegDeliveryStatus, .lvtErrorRegMask]
  | .timerCountReg => [.timerCountRegCount]
  | .timerDivideReg => [.timerDivideRegDivLo, .timerDivideRegDivHi]

/-- `mask(w) << lsb` at 128 bits: the bits of the slot a field takes (40_value_ops.md R79). -/
def Field.slotMask (f : Field) : Slot := (BitVec.allOnes f.width).setWidth 128 <<< f.lsb

/-- The named bits of a register type, `NAMED` of 30_encoding.md R55, as slot bits. -/
def RegType.named (t : RegType) : Slot := t.fields.foldr (fun f m => f.slotMask ||| m) 0#128

/-- The type of an entry (10_state.md R18). -/
def Entry.regType : Entry → RegType
  | .id => .idReg
  | .ver => .versionReg
  | .tpr => .priorityReg
  | .apr => .priorityReg
  | .ppr => .priorityReg
  | .eoi => .eoiReg
  | .ldr => .logicalDestReg
  | .dfr => .destFormatReg
  | .svr => .spuriousReg
  | .isr _ => .bitmask32Reg
  | .tmr _ => .bitmask32Reg
  | .irr _ => .bitmask32Reg
  | .esr => .errorStatusReg
  | .icrl => .icrLowReg
  | .icrh => .icrHighReg
  | .lvtt => .lvtTimerReg
  | .lvtth => .lvtThermalReg
  | .lvtpc => .lvtPerfReg
  | .lvtl0 => .lvtLintReg
  | .lvtl1 => .lvtLintReg
  | .lvterr => .lvtErrorReg
  | .ticr => .timerCountReg
  | .tccr => .timerCountReg
  | .tdcr => .timerDivideReg

/-- `off(E)`: the byte offset of an entry; element `k` of an array is 16 * k bytes on (43_regfile_ops.md R182). -/
def Entry.offset : Entry → Nat
  | .id => 0x020
  | .ver => 0x030
  | .tpr => 0x080
  | .apr => 0x090
  | .ppr => 0x0A0
  | .eoi => 0x0B0
  | .ldr => 0x0D0
  | .dfr => 0x0E0
  | .svr => 0x0F0
  | .isr k => 0x100 + 16 * k.toNat
  | .tmr k => 0x180 + 16 * k.toNat
  | .irr k => 0x200 + 16 * k.toNat
  | .esr => 0x280
  | .icrl => 0x300
  | .icrh => 0x310
  | .lvtt => 0x320
  | .lvtth => 0x330
  | .lvtpc => 0x340
  | .lvtl0 => 0x350
  | .lvtl1 => 0x360
  | .lvterr => 0x370
  | .ticr => 0x380
  | .tccr => 0x390
  | .tdcr => 0x3E0

/-- `slot(E) = off(E) / 16` (R182). -/
def Entry.slot (e : Entry) : Nat := e.offset / Config.slotBytes

/-- The byte offset of a reserved region (10_state.md R19). -/
def Region.offset : Region → Nat
  | .rsv0 => 0x000
  | .rsv1 => 0x040
  | .rsv2 => 0x0C0
  | .rsv3 => 0x290
  | .rsv4 => 0x3A0
  | .rsv5 => 0x3F0

/-- The size of a reserved region in bytes (10_state.md R19). -/
def Region.bytes : Region → Nat
  | .rsv0 => 32
  | .rsv1 => 64
  | .rsv2 => 16
  | .rsv3 => 112
  | .rsv4 => 64
  | .rsv5 => 16

/-- The 24 entries with their array elements: the 45 named slots in offset order (10_state.md R18). -/
def Entry.all : List Entry :=
  ([.id, .ver, .tpr, .apr, .ppr, .eoi, .ldr, .dfr, .svr] : List Entry)
    ++ ([.isr 0#3, .isr 1#3, .isr 2#3, .isr 3#3, .isr 4#3, .isr 5#3, .isr 6#3, .isr 7#3] : List Entry)
    ++ ([.tmr 0#3, .tmr 1#3, .tmr 2#3, .tmr 3#3, .tmr 4#3, .tmr 5#3, .tmr 6#3, .tmr 7#3] : List Entry)
    ++ ([.irr 0#3, .irr 1#3, .irr 2#3, .irr 3#3, .irr 4#3, .irr 5#3, .irr 6#3, .irr 7#3] : List Entry)
    ++ ([.esr, .icrl, .icrh, .lvtt, .lvtth, .lvtpc, .lvtl0, .lvtl1, .lvterr, .ticr, .tccr, .tdcr] : List Entry)

/-- The entry at slot index `i`, none for a reserved slot (30_encoding.md R59, R60). -/
def Entry.ofSlot (i : Nat) : Option Entry := Entry.all.find? fun e => e.slot == i

/-- The bits of slot `i` that no named field takes: reserved bits of the word, padding, and every bit of a reserved
slot (30_encoding.md R60, R61). -/
def reservedMask (i : Nat) : Slot :=
  match Entry.ofSlot i with
  | some e => ~~~e.regType.named
  | none => BitVec.allOnes 128

/-- The reserved bits of byte `a` of the block (10_state.md R28). -/
def reservedByte (a : Nat) : Byte := (reservedMask (a / 16)).extractLsb' (8 * (a % 16)) 8

end Sys2Proof
end

