-- ==== Sys2Proof/Machine/Operands.lean ====
section
/-! DEFINITION. Field operands and results: the two functions `GET` and `WITH` everything else is built from
(40_value_ops.md R78, R79), the setter's operand (30_encoding.md R56) and the getter's container (R57). -/

namespace Sys2Proof.Machine

/-- `GET(s, lsb, w) = (s >> lsb)[w-1:0]` (R78). -/
def getBits (lsb w : Nat) (x : Slot) : BitVec w := (x >>> lsb).setWidth w

/-- `WITH(s, lsb, w, v) = (s & ~(zext_128(mask(w)) << lsb)) | (zext_128(v) << lsb)` (R79). -/
def withBits (lsb w : Nat) (x : Slot) (v : BitVec w) : Slot :=
  (x &&& ~~~((BitVec.allOnes w).setWidth 128 <<< lsb)) ||| (v.setWidth 128 <<< lsb)

/-- `GET T.f, s`. -/
def getField (f : Field) (x : Slot) : BitVec f.width := getBits f.lsb f.width x

/-- The setter's operand `v[w-1:0]`: of a wider container only the low `w` bits are used (30_encoding.md R56). -/
def operand (f : Field) (v : RegWord) : BitVec f.width := v.setWidth f.width

/-- `WITH T.f, s, v`. -/
def withField (f : Field) (x : Slot) (v : RegWord) : Slot := withBits f.lsb f.width x (operand f v)

/-- The bits of the smallest unsigned container of a `w`-bit result (30_encoding.md R57). -/
def containerBits (w : Nat) : Nat := if w ≤ 8 then 8 else if w ≤ 16 then 16 else 32

/-- A getter's result in its container, zero-extended (R57). -/
def inContainer {w : Nat} (v : BitVec w) : BitVec (containerBits w) := v.setWidth (containerBits w)

end Sys2Proof.Machine
end

