-- ==== Sys2Proof/Machine/State.lean ====
section
/-! DEFINITION. The state of the machine, the reasons a step can stop, and the state after reset. The block's whole
architectural state is its 1024 bytes (10_state.md R13); the other three fields are the model's own and stand for the
host at the block's one port (INVENTORY.md, State; logs 2, 3, 4). -/

namespace Sys2Proof.Machine

/-- Bytes of the block by offset, offsets strictly rising, no entry equal to what an unlisted offset reads as. -/
abbrev Memory := List Host.Cell

/-- A value an operation returns to the host (92_eei_decisions.md D21). -/
inductive Result where
  /-- A slot value (40_value_ops.md R77, R79, R82; 43_regfile_ops.md R187). -/
  | slot (v : Slot)
  /-- A field value of exactly `w` bits (30_encoding.md R57). -/
  | field (w : Nat) (v : BitVec w)
  /-- A byte sequence, the lowest offset first (40_value_ops.md R81; 43_regfile_ops.md R183). -/
  | bytes (b : List Byte)
  /-- The `8n` bits of a raw read (43_regfile_ops.md R185). -/
  | raw (n : Nat) (v : BitVec (8 * n))
  /-- A register word (43_regfile_ops.md R189). -/
  | word (v : RegWord)
  /-- A truth value (40_value_ops.md R83). -/
  | truth (b : Bool)
  deriving DecidableEq, Repr

structure State where
  /-- `M[0 .. 1023]`, the block (10_state.md R13). -/
  mem : Memory
  /-- The model's own (log 2): the bytes of the operations the host has issued and the block has not performed. -/
  port : List Byte
  /-- The model's own (log 3): the values returned so far, oldest first. -/
  results : List Result
  /-- The model's own (log 4): the slot value the host holds, which `SET` mutates (40_value_ops.md R80). -/
  held : Slot
  deriving DecidableEq, Repr

/-- The hardware raises no exception and reports no error: the set of causes is empty (60_exceptions.md R200, R201). No
constructor, so nothing raises one; safe. -/
inductive Fault where
  deriving DecidableEq, Repr

/-- Why a step gives no next state. A refusal is "the absence of a step" (60_exceptions.md R208). -/
inductive Refusal where
  /-- Raised by `exec` for an instruction that has no meaning yet; safe. No arm of this model raises it. -/
  | notModelled (mnemonic : String)
  /-- Raised by `step` when the bytes at the port are no operation (30_encoding.md R56, R182; log 6); safe. -/
  | undecodable (why : DecodeError)
  /-- Raised by every raw access whose `n` bytes at `addr` are not all in the block (60_exceptions.md R203); safe. -/
  | outsideBlock (addr n : Nat)
  /-- Raised by `RF_FROM_BYTES` and `FROM_BYTES` on a byte sequence of another length than theirs: "overlaying fewer
  than 1024 bytes" (43_regfile_ops.md R197); safe. No decoded operation has one. -/
  | wrongByteCount (want got : Nat)
  /-- Raised by `GETF` and `SETF` on a field that is not of the entry's type (40_value_ops.md R91); safe. No decoded
  operation has one. -/
  | fieldOfAnotherType
  /-- Raised by `launch` when `BASE mod 16` is not 0 (60_exceptions.md R203); safe. -/
  | baseMisaligned (base : Nat)
  /-- Raised by `launch` when fewer than 1024 bytes are mapped (60_exceptions.md R203); safe. -/
  | mappingTooShort (extent : Nat)
  deriving DecidableEq, Repr

/-- After reset every byte of the block is zero (10_state.md R23, 70_reset_and_hazards.md R220). The port and the results are empty
and the held value is 0 (the model's own fields, DESIGN CHOICE, logs 2, 3, 4). -/
def State.reset : State := { mem := [], port := [], results := [], held := 0#128 }

end Sys2Proof.Machine
end

