-- ==== Sys2Proof/Machine/Ops.lean ====
section
/-! DEFINITION. The shared operations: the memory primitives `MemRead` and `MemWrite` (20_memory.md R37) over the block's
canonical byte list, what returning a value to the host does, and the raw transaction (30_encoding.md R58).

There is no operation here for taking an exception or returning from one: the hardware has no trap mechanism, saves
no state, has no mode and no handler address (60_exceptions.md R200, R208, R209, R211). -/

namespace Sys2Proof.Machine

/-- What an offset the list does not hold reads as: the reset contents (10_state.md R23). -/
def unlistedByte : Byte := 0x00#8

/-- `M[a]`. -/
def Memory.read : Memory → Nat → Byte
  | [], _ => unlistedByte
  | (x, b) :: m, a => if x = a then b else Memory.read m a

/-- `M[a] <- b`, keeping the canonical form. -/
def Memory.set : Memory → Nat → Byte → Memory
  | [], a, b => if b = unlistedByte then [] else [(a, b)]
  | (x, c) :: m, a, b =>
    if a < x then if b = unlistedByte then (x, c) :: m else (a, b) :: (x, c) :: m
    else if a = x then if b = unlistedByte then m else (a, b) :: m
    else (x, c) :: Memory.set m a b

/-- `MemWrite(addr, n, v)` with `v` as its `n` bytes: `M[addr + k] <- v[8k+7:8k]` (20_memory.md R37). -/
def Memory.write : Memory → Nat → List Byte → Memory
  | m, _, [] => m
  | m, a, b :: bs => Memory.write (m.set a b) (a + 1) bs

/-- The `n` bytes from offset `a`. -/
def Memory.bytesAt (m : Memory) (a n : Nat) : List Byte := (List.range n).map fun k => m.read (a + k)

/-- `MemRead(addr, n)`: the `8n`-bit value whose byte `k` is `M[addr + k]` (R37). -/
def Memory.valAt (m : Memory) (a n : Nat) : BitVec (8 * n) := ofBytes (8 * n) (m.bytesAt a n)

/-- `x[i]` at the offset of the slot: `MemRead(off, 16)` (43_regfile_ops.md R187). -/
def Memory.slotAt (m : Memory) (a : Nat) : Slot := m.valAt a 16

/-- `wd[i]` at the offset of the slot: `MemRead(off, 4)` (43_regfile_ops.md R189). -/
def Memory.wordAt (m : Memory) (a : Nat) : RegWord := m.valAt a 4

/-- Offsets strictly rising from `lo`, inside the block, no entry equal to the unlisted byte. -/
def Memory.wfFrom : Nat → Memory → Bool
  | _, [] => true
  | lo, (x, b) :: m => lo ≤ x && x < Config.rfBytes && b != unlistedByte && Memory.wfFrom (x + 1) m

/-- The canonical form of the block's byte list. -/
def Memory.wf (m : Memory) : Bool := Memory.wfFrom 0 m

/-- The domain of the primitives: `n >= 1` and `addr + n <= 1024` (20_memory.md R37). -/
def inBlock (a n : Nat) : Bool := 1 ≤ n && a + n ≤ Config.rfBytes

/-- The host receives a value. -/
def State.ret (s : State) (r : Result) : State := { s with results := s.results ++ [r] }

/-- The host receives a slot value, which it holds from now on (log 4). -/
def State.give (s : State) (v : Slot) : State := { s with results := s.results ++ [.slot v], held := v }

/-- The block's bytes from `a` on are replaced (`MemWrite`). -/
def State.store (s : State) (a : Nat) (bs : List Byte) : State := { s with mem := s.mem.write a bs }

/-- A transaction record at offset `a` (30_encoding.md R58). The domain is checked before any byte is touched
(60_exceptions.md R207); outside it the access has no step and no result (R203). -/
def txn (a : Nat) (t : Access) (s : State) : Host.Outcome State Fault Refusal :=
  if inBlock a t.size then
    match t with
    | .read n => .next (s.ret (.raw n (s.mem.valAt a n)))
    | .write d => .next (s.store a d)
  else .refused (.outsideBlock a t.size)

/-- A getter applied to a slot value the host supplies: the result is returned, nothing else changes (40_value_ops.md
R78). -/
def getValue (f : Field) (x : Slot) (s : State) : Host.Outcome State Fault Refusal :=
  .next (s.ret (.field f.width (getField f x)))

/-- A setter applied to a slot value the host supplies: the updated value is returned (R79). -/
def withValue (f : Field) (x : Slot) (v : RegWord) (s : State) : Host.Outcome State Fault Refusal :=
  .next (s.give (withField f x v))

end Sys2Proof.Machine
end

