-- ==== Sys2Proof/Machine/Access.lean ====
section
/-! DEFINITION. The 33 rows of the operation map (30_encoding.md R59): a transaction record (R58) whose first byte lies in the
row's entry (10_state.md R18) or reserved region (R19). Nothing but the bytes read or written is touched, whatever
the register's name suggests (20_memory.md R39). -/

namespace Sys2Proof.Machine

/-- Entry `ID`, byte `byte` (R18). -/
def execAccId (byte : BitVec 4) (t : Access) (s : State) : Host.Outcome State Fault Refusal :=
  txn (Entry.id.offset + byte.toNat) t s

/-- Entry `VER`, byte `byte` (R18). -/
def execAccVer (byte : BitVec 4) (t : Access) (s : State) : Host.Outcome State Fault Refusal :=
  txn (Entry.ver.offset + byte.toNat) t s

/-- Entry `TPR`, byte `byte` (R18). -/
def execAccTpr (byte : BitVec 4) (t : Access) (s : State) : Host.Outcome State Fault Refusal :=
  txn (Entry.tpr.offset + byte.toNat) t s

/-- Entry `APR`, byte `byte` (R18). -/
def execAccApr (byte : BitVec 4) (t : Access) (s : State) : Host.Outcome State Fault Refusal :=
  txn (Entry.apr.offset + byte.toNat) t s

/-- Entry `PPR`, byte `byte` (R18). -/
def execAccPpr (byte : BitVec 4) (t : Access) (s : State) : Host.Outcome State Fault Refusal :=
  txn (Entry.ppr.offset + byte.toNat) t s

/-- Entry `EOI`, byte `byte` (R18). -/
def execAccEoi (byte : BitVec 4) (t : Access) (s : State) : Host.Outcome State Fault Refusal :=
  txn (Entry.eoi.offset + byte.toNat) t s

/-- Entry `LDR`, byte `byte` (R18). -/
def execAccLdr (byte : BitVec 4) (t : Access) (s : State) : Host.Outcome State Fault Refusal :=
  txn (Entry.ldr.offset + byte.toNat) t s

/-- Entry `DFR`, byte `byte` (R18). -/
def execAccDfr (byte : BitVec 4) (t : Access) (s : State) : Host.Outcome State Fault Refusal :=
  txn (Entry.dfr.offset + byte.toNat) t s

/-- Entry `SVR`, byte `byte` (R18). -/
def execAccSvr (byte : BitVec 4) (t : Access) (s : State) : Host.Outcome State Fault Refusal :=
  txn (Entry.svr.offset + byte.toNat) t s

/-- Array `ISR[k]`, byte `byte` of element `k` (R18). -/
def execAccIsr (k : BitVec 3) (byte : BitVec 4) (t : Access) (s : State) : Host.Outcome State Fault Refusal :=
  txn ((Entry.isr k).offset + byte.toNat) t s

/-- Array `TMR[k]`, byte `byte` of element `k` (R18). -/
def execAccTmr (k : BitVec 3) (byte : BitVec 4) (t : Access) (s : State) : Host.Outcome State Fault Refusal :=
  txn ((Entry.tmr k).offset + byte.toNat) t s

/-- Array `IRR[k]`, byte `byte` of element `k` (R18). -/
def execAccIrr (k : BitVec 3) (byte : BitVec 4) (t : Access) (s : State) : Host.Outcome State Fault Refusal :=
  txn ((Entry.irr k).offset + byte.toNat) t s

/-- Entry `ESR`, byte `byte` (R18). -/
def execAccEsr (byte : BitVec 4) (t : Access) (s : State) : Host.Outcome State Fault Refusal :=
  txn (Entry.esr.offset + byte.toNat) t s

/-- Entry `ICRL`, byte `byte` (R18). -/
def execAccIcrl (byte : BitVec 4) (t : Access) (s : State) : Host.Outcome State Fault Refusal :=
  txn (Entry.icrl.offset + byte.toNat) t s

/-- Entry `ICRH`, byte `byte` (R18). -/
def execAccIcrh (byte : BitVec 4) (t : Access) (s : State) : Host.Outcome State Fault Refusal :=
  txn (Entry.icrh.offset + byte.toNat) t s

/-- Entry `LVTT`, byte `byte` (R18). -/
def execAccLvtt (byte : BitVec 4) (t : Access) (s : State) : Host.Outcome State Fault Refusal :=
  txn (Entry.lvtt.offset + byte.toNat) t s

/-- Entry `LVTTH`, byte `byte` (R18). -/
def execAccLvtth (byte : BitVec 4) (t : Access) (s : State) : Host.Outcome State Fault Refusal :=
  txn (Entry.lvtth.offset + byte.toNat) t s

/-- Entry `LVTPC`, byte `byte` (R18). -/
def execAccLvtpc (byte : BitVec 4) (t : Access) (s : State) : Host.Outcome State Fault Refusal :=
  txn (Entry.lvtpc.offset + byte.toNat) t s

/-- Entry `LVTL0`, byte `byte` (R18). -/
def execAccLvtl0 (byte : BitVec 4) (t : Access) (s : State) : Host.Outcome State Fault Refusal :=
  txn (Entry.lvtl0.offset + byte.toNat) t s

/-- Entry `LVTL1`, byte `byte` (R18). -/
def execAccLvtl1 (byte : BitVec 4) (t : Access) (s : State) : Host.Outcome State Fault Refusal :=
  txn (Entry.lvtl1.offset + byte.toNat) t s

/-- Entry `LVTERR`, byte `byte` (R18). -/
def execAccLvterr (byte : BitVec 4) (t : Access) (s : State) : Host.Outcome State Fault Refusal :=
  txn (Entry.lvterr.offset + byte.toNat) t s

/-- Entry `TICR`, byte `byte` (R18). -/
def execAccTicr (byte : BitVec 4) (t : Access) (s : State) : Host.Outcome State Fault Refusal :=
  txn (Entry.ticr.offset + byte.toNat) t s

/-- Entry `TCCR`, byte `byte` (R18). -/
def execAccTccr (byte : BitVec 4) (t : Access) (s : State) : Host.Outcome State Fault Refusal :=
  txn (Entry.tccr.offset + byte.toNat) t s

/-- Entry `TDCR`, byte `byte` (R18). -/
def execAccTdcr (byte : BitVec 4) (t : Access) (s : State) : Host.Outcome State Fault Refusal :=
  txn (Entry.tdcr.offset + byte.toNat) t s

/-- Region `RSV0`, from its byte 0 on (R19): stored bytes like any other (30_encoding.md R60). -/
def execAccRsv0 (off : BitVec 5) (t : Access) (s : State) : Host.Outcome State Fault Refusal :=
  txn (Region.rsv0.offset + off.toNat) t s

/-- Region `RSV1`, from its byte 0 on (R19): stored bytes like any other (30_encoding.md R60). -/
def execAccRsv1 (off : BitVec 6) (t : Access) (s : State) : Host.Outcome State Fault Refusal :=
  txn (Region.rsv1.offset + off.toNat) t s

/-- Region `RSV2`, from its byte 0 on (R19): stored bytes like any other (30_encoding.md R60). -/
def execAccRsv2 (off : BitVec 4) (t : Access) (s : State) : Host.Outcome State Fault Refusal :=
  txn (Region.rsv2.offset + off.toNat) t s

/-- Region `RSV3`, from its byte 0 on (R19): stored bytes like any other (30_encoding.md R60). -/
def execAccRsv3Slot41 (off : BitVec 4) (t : Access) (s : State) : Host.Outcome State Fault Refusal :=
  txn (Region.rsv3.offset + off.toNat) t s

/-- Region `RSV3`, from its byte 16 on (R19): stored bytes like any other (30_encoding.md R60). -/
def execAccRsv3Slots42To43 (off : BitVec 5) (t : Access) (s : State) : Host.Outcome State Fault Refusal :=
  txn (Region.rsv3.offset + 16 + off.toNat) t s

/-- Region `RSV3`, from its byte 48 on (R19): stored bytes like any other (30_encoding.md R60). -/
def execAccRsv3Slots44To47 (off : BitVec 6) (t : Access) (s : State) : Host.Outcome State Fault Refusal :=
  txn (Region.rsv3.offset + 48 + off.toNat) t s

/-- Region `RSV4`, from its byte 0 on (R19): stored bytes like any other (30_encoding.md R60). -/
def execAccRsv4Slots58To59 (off : BitVec 5) (t : Access) (s : State) : Host.Outcome State Fault Refusal :=
  txn (Region.rsv4.offset + off.toNat) t s

/-- Region `RSV4`, from its byte 32 on (R19): stored bytes like any other (30_encoding.md R60). -/
def execAccRsv4Slots60To61 (off : BitVec 5) (t : Access) (s : State) : Host.Outcome State Fault Refusal :=
  txn (Region.rsv4.offset + 32 + off.toNat) t s

/-- Region `RSV5`, from its byte 0 on (R19): stored bytes like any other (30_encoding.md R60). -/
def execAccRsv5 (off : BitVec 4) (t : Access) (s : State) : Host.Outcome State Fault Refusal :=
  txn (Region.rsv5.offset + off.toNat) t s

end Sys2Proof.Machine
end

