-- ==== Sys2Proof/WellFormed.lean ====
section
/-! DEFINITION. What the encoding can carry: the checks that whatever reads an operation's text or record makes before the
operation is one (30_encoding.md R56, R58; 40_value_ops.md R91). Whether an access stays inside the block is NOT
checked here: the operation itself is refused then (60_exceptions.md R203). -/

namespace Sys2Proof

/-- A transaction record moves 1 to 1024 bytes (30_encoding.md R58). -/
def Access.wf (t : Access) : Bool := 1 ≤ t.size && t.size ≤ 1024

/-- A setter's operand is a value of exactly `w` bits (30_encoding.md R56). -/
def Field.fits (f : Field) (v : RegWord) : Bool := v.toNat < 2 ^ f.width

/-- Field `f` is one of entry `e`'s type (40_value_ops.md R91). -/
def Field.isOf (f : Field) (e : Entry) : Bool := f.regType == e.regType

/-- Well-formed: every literal fits, every byte string has its length, every field is of its entry's type. -/
def Instr.wf : Instr → Bool
  | .opDefault _ => true
  | .opGet _ _ => true
  | .opWith f _ v => f.fits v
  | .opSet f v => f.fits v
  | .toBytes _ => true
  | .fromBytes b => b.length == 16
  | .opEq _ _ => true
  | .rfDefault => true
  | .rfToBytes => true
  | .rfFromBytes b => b.length == 1024
  | .rd _ _ => true
  | .wr _ d => d.length < 2048
  | .rds _ => true
  | .wrs _ _ => true
  | .rdw _ => true
  | .wrw _ _ => true
  | .getf e f => f.isOf e
  | .setf e f v => f.isOf e && f.fits v
  | .accId _ t => t.wf
  | .accVer _ t => t.wf
  | .accTpr _ t => t.wf
  | .accApr _ t => t.wf
  | .accPpr _ t => t.wf
  | .accEoi _ t => t.wf
  | .accLdr _ t => t.wf
  | .accDfr _ t => t.wf
  | .accSvr _ t => t.wf
  | .accIsr _ _ t => t.wf
  | .accTmr _ _ t => t.wf
  | .accIrr _ _ t => t.wf
  | .accEsr _ t => t.wf
  | .accIcrl _ t => t.wf
  | .accIcrh _ t => t.wf
  | .accLvtt _ t => t.wf
  | .accLvtth _ t => t.wf
  | .accLvtpc _ t => t.wf
  | .accLvtl0 _ t => t.wf
  | .accLvtl1 _ t => t.wf
  | .accLvterr _ t => t.wf
  | .accTicr _ t => t.wf
  | .accTccr _ t => t.wf
  | .accTdcr _ t => t.wf
  | .accRsv0 _ t => t.wf
  | .accRsv1 _ t => t.wf
  | .accRsv2 _ t => t.wf
  | .accRsv3Slot41 _ t => t.wf
  | .accRsv3Slots42To43 _ t => t.wf
  | .accRsv3Slots44To47 _ t => t.wf
  | .accRsv4Slots58To59 _ t => t.wf
  | .accRsv4Slots60To61 _ t => t.wf
  | .accRsv5 _ t => t.wf
  | .getIdRegId _ => true
  | .withIdRegId _ v => Field.fits .idRegId v
  | .getVersionRegVersion _ => true
  | .withVersionRegVersion _ v => Field.fits .versionRegVersion v
  | .getVersionRegMaxLvtEntry _ => true
  | .withVersionRegMaxLvtEntry _ v => Field.fits .versionRegMaxLvtEntry v
  | .getPriorityRegSubclass _ => true
  | .withPriorityRegSubclass _ v => Field.fits .priorityRegSubclass v
  | .getPriorityRegClass _ => true
  | .withPriorityRegClass _ v => Field.fits .priorityRegClass v
  | .getEoiRegValue _ => true
  | .withEoiRegValue _ v => Field.fits .eoiRegValue v
  | .getLogicalDestRegLogicalId _ => true
  | .withLogicalDestRegLogicalId _ v => Field.fits .logicalDestRegLogicalId v
  | .getDestFormatRegModel _ => true
  | .withDestFormatRegModel _ v => Field.fits .destFormatRegModel v
  | .getSpuriousRegVector _ => true
  | .withSpuriousRegVector _ v => Field.fits .spuriousRegVector v
  | .getSpuriousRegEnable _ => true
  | .withSpuriousRegEnable _ v => Field.fits .spuriousRegEnable v
  | .getSpuriousRegFocusCheck _ => true
  | .withSpuriousRegFocusCheck _ v => Field.fits .spuriousRegFocusCheck v
  | .getSpuriousRegEoiBcastSuppress _ => true
  | .withSpuriousRegEoiBcastSuppress _ v => Field.fits .spuriousRegEoiBcastSuppress v
  | .getBitmask32RegBits _ => true
  | .withBitmask32RegBits _ v => Field.fits .bitmask32RegBits v
  | .getErrorStatusRegSendChecksum _ => true
  | .withErrorStatusRegSendChecksum _ v => Field.fits .errorStatusRegSendChecksum v
  | .getErrorStatusRegRecvChecksum _ => true
  | .withErrorStatusRegRecvChecksum _ v => Field.fits .errorStatusRegRecvChecksum v
  | .getErrorStatusRegSendAccept _ => true
  | .withErrorStatusRegSendAccept _ v => Field.fits .errorStatusRegSendAccept v
  | .getErrorStatusRegRecvAccept _ => true
  | .withErrorStatusRegRecvAccept _ v => Field.fits .errorStatusRegRecvAccept v
  | .getErrorStatusRegRedirectableIpi _ => true
  | .withErrorStatusRegRedirectableIpi _ v => Field.fits .errorStatusRegRedirectableIpi v
  | .getErrorStatusRegSendIllegalVector _ => true
  | .withErrorStatusRegSendIllegalVector _ v => Field.fits .errorStatusRegSendIllegalVector v
  | .getErrorStatusRegRecvIllegalVector _ => true
  | .withErrorStatusRegRecvIllegalVector _ v => Field.fits .errorStatusRegRecvIllegalVector v
  | .getErrorStatusRegIllegalRegAddr _ => true
  | .withErrorStatusRegIllegalRegAddr _ v => Field.fits .errorStatusRegIllegalRegAddr v
  | .getIcrLowRegVector _ => true
  | .withIcrLowRegVector _ v => Field.fits .icrLowRegVector v
  | .getIcrLowRegDeliveryMode _ => true
  | .withIcrLowRegDeliveryMode _ v => Field.fits .icrLowRegDeliveryMode v
  | .getIcrLowRegDestMode _ => true
  | .withIcrLowRegDestMode _ v => Field.fits .icrLowRegDestMode v
  | .getIcrLowRegDeliveryStatus _ => true
  | .withIcrLowRegDeliveryStatus _ v => Field.fits .icrLowRegDeliveryStatus v
  | .getIcrLowRegLevel _ => true
  | .withIcrLowRegLevel _ v => Field.fits .icrLowRegLevel v
  | .getIcrLowRegTriggerMode _ => true
  | .withIcrLowRegTriggerMode _ v => Field.fits .icrLowRegTriggerMode v
  | .getIcrLowRegShorthand _ => true
  | .withIcrLowRegShorthand _ v => Field.fits .icrLowRegShorthand v
  | .getIcrHighRegDestination _ => true
  | .withIcrHighRegDestination _ v => Field.fits .icrHighRegDestination v
  | .getLvtTimerRegVector _ => true
  | .withLvtTimerRegVector _ v => Field.fits .lvtTimerRegVector v
  | .getLvtTimerRegDeliveryStatus _ => true
  | .withLvtTimerRegDeliveryStatus _ v => Field.fits .lvtTimerRegDeliveryStatus v
  | .getLvtTimerRegMask _ => true
  | .withLvtTimerRegMask _ v => Field.fits .lvtTimerRegMask v
  | .getLvtTimerRegTimerMode _ => true
  | .withLvtTimerRegTimerMode _ v => Field.fits .lvtTimerRegTimerMode v
  | .getLvtThermalRegVector _ => true
  | .withLvtThermalRegVector _ v => Field.fits .lvtThermalRegVector v
  | .getLvtThermalRegDeliveryMode _ => true
  | .withLvtThermalRegDeliveryMode _ v => Field.fits .lvtThermalRegDeliveryMode v
  | .getLvtThermalRegDeliveryStatus _ => true
  | .withLvtThermalRegDeliveryStatus _ v => Field.fits .lvtThermalRegDeliveryStatus v
  | .getLvtThermalRegMask _ => true
  | .withLvtThermalRegMask _ v => Field.fits .lvtThermalRegMask v
  | .getLvtPerfRegVector _ => true
  | .withLvtPerfRegVector _ v => Field.fits .lvtPerfRegVector v
  | .getLvtPerfRegDeliveryMode _ => true
  | .withLvtPerfRegDeliveryMode _ v => Field.fits .lvtPerfRegDeliveryMode v
  | .getLvtPerfRegDeliveryStatus _ => true
  | .withLvtPerfRegDeliveryStatus _ v => Field.fits .lvtPerfRegDeliveryStatus v
  | .getLvtPerfRegMask _ => true
  | .withLvtPerfRegMask _ v => Field.fits .lvtPerfRegMask v
  | .getLvtLintRegVector _ => true
  | .withLvtLintRegVector _ v => Field.fits .lvtLintRegVector v
  | .getLvtLintRegDeliveryMode _ => true
  | .withLvtLintRegDeliveryMode _ v => Field.fits .lvtLintRegDeliveryMode v
  | .getLvtLintRegDeliveryStatus _ => true
  | .withLvtLintRegDeliveryStatus _ v => Field.fits .lvtLintRegDeliveryStatus v
  | .getLvtLintRegPolarity _ => true
  | .withLvtLintRegPolarity _ v => Field.fits .lvtLintRegPolarity v
  | .getLvtLintRegRemoteIrr _ => true
  | .withLvtLintRegRemoteIrr _ v => Field.fits .lvtLintRegRemoteIrr v
  | .getLvtLintRegTriggerMode _ => true
  | .withLvtLintRegTriggerMode _ v => Field.fits .lvtLintRegTriggerMode v
  | .getLvtLintRegMask _ => true
  | .withLvtLintRegMask _ v => Field.fits .lvtLintRegMask v
  | .getLvtErrorRegVector _ => true
  | .withLvtErrorRegVector _ v => Field.fits .lvtErrorRegVector v
  | .getLvtErrorRegDeliveryStatus _ => true
  | .withLvtErrorRegDeliveryStatus _ v => Field.fits .lvtErrorRegDeliveryStatus v
  | .getLvtErrorRegMask _ => true
  | .withLvtErrorRegMask _ v => Field.fits .lvtErrorRegMask v
  | .getTimerCountRegCount _ => true
  | .withTimerCountRegCount _ v => Field.fits .timerCountRegCount v
  | .getTimerDivideRegDivLo _ => true
  | .withTimerDivideRegDivLo _ v => Field.fits .timerDivideRegDivLo v
  | .getTimerDivideRegDivHi _ => true
  | .withTimerDivideRegDivHi _ v => Field.fits .timerDivideRegDivHi v

end Sys2Proof
end

