-- ==== Sys2Proof/Machine/Block.lean ====
section
/-! DEFINITION. The eleven block-level operations (43_regfile_ops.md R180 to R192). -/

namespace Sys2Proof.Machine

/-- `RF_DEFAULT`: `M[a] <- 0x00` for every `a` (R181), the expansion of 30_encoding.md R66. -/
def execRfDefault (s : State) : Host.Outcome State Fault Refusal := .next (s.store 0 (List.replicate Config.rfBytes 0x00#8))

/-- `RF_TO_BYTES`: the 1024 bytes as stored (R183). -/
def execRfToBytes (s : State) : Host.Outcome State Fault Refusal := .next (s.ret (.bytes (s.mem.bytesAt 0 Config.rfBytes)))

/-- `RF_FROM_BYTES b`: `M[a] <- b[a]`; every bit is stored (R184). -/
def execRfFromBytes (b : List Byte) (s : State) : Host.Outcome State Fault Refusal :=
  if b.length = Config.rfBytes then .next (s.store 0 b) else .refused (.wrongByteCount Config.rfBytes b.length)

/-- `RD addr, n` (R185). -/
def execRd (addr n : BitVec 11) (s : State) : Host.Outcome State Fault Refusal := txn addr.toNat (.read n.toNat) s

/-- `WR addr, n, v`: every byte carried is stored, no bit masked (R186). -/
def execWr (addr : BitVec 11) (data : List Byte) (s : State) : Host.Outcome State Fault Refusal := txn addr.toNat (.write data) s

/-- `RDS E`: a copy of the slot (R187). -/
def execRds (e : Entry) (s : State) : Host.Outcome State Fault Refusal := .next (s.give (s.mem.slotAt e.offset))

/-- `WRS E, v`: all 128 bits, padding included (R188). -/
def execWrs (e : Entry) (v : Slot) (s : State) : Host.Outcome State Fault Refusal := .next (s.store e.offset (slotBytes v))

/-- `RDW E`: the register word (R189). -/
def execRdw (e : Entry) (s : State) : Host.Outcome State Fault Refusal := .next (s.ret (.word (s.mem.wordAt e.offset)))

/-- `WRW E, v`: the four bytes of the register word; the padding is unchanged (R190). -/
def execWrw (e : Entry) (v : RegWord) (s : State) : Host.Outcome State Fault Refusal := .next (s.store e.offset (wordBytes v))

/-- `GETF E.f`: `GET` of the entry's slot (R191). A field of another type is no operation (40_value_ops.md R91). -/
def execGetf (e : Entry) (f : Field) (s : State) : Host.Outcome State Fault Refusal :=
  if f.isOf e then .next (s.ret (.field f.width (getField f (s.mem.slotAt e.offset)))) else .refused .fieldOfAnotherType

/-- `SETF E.f, v`: read the slot, `WITH`, write the 16 bytes back (R192, R193). -/
def execSetf (e : Entry) (f : Field) (v : RegWord) (s : State) : Host.Outcome State Fault Refusal :=
  if f.isOf e then .next (s.store e.offset (slotBytes (withField f (s.mem.slotAt e.offset) v))) else .refused .fieldOfAnotherType

end Sys2Proof.Machine
end

