-- ==== Sys2Proof/Machine/Getters.lean ====
section
/-! DEFINITION. The getter of each of the 54 named fields, on a slot value the host supplies: the instances of
40_value_ops.md R78 for the descriptors of 30_encoding.md R55. -/

namespace Sys2Proof.Machine

/-- `GET IdReg.id, s` (R101). -/
def execGetIdRegId (x : Slot) (s : State) : Host.Outcome State Fault Refusal := getValue .idRegId x s

/-- `GET VersionReg.version, s` (R103). -/
def execGetVersionRegVersion (x : Slot) (s : State) : Host.Outcome State Fault Refusal := getValue .versionRegVersion x s

/-- `GET VersionReg.max_lvt_entry, s` (R104). -/
def execGetVersionRegMaxLvtEntry (x : Slot) (s : State) : Host.Outcome State Fault Refusal := getValue .versionRegMaxLvtEntry x s

/-- `GET PriorityReg.subclass, s` (R106). -/
def execGetPriorityRegSubclass (x : Slot) (s : State) : Host.Outcome State Fault Refusal := getValue .priorityRegSubclass x s

/-- `GET PriorityReg.class, s` (R107). -/
def execGetPriorityRegClass (x : Slot) (s : State) : Host.Outcome State Fault Refusal := getValue .priorityRegClass x s

/-- `GET EoiReg.value, s` (R109). -/
def execGetEoiRegValue (x : Slot) (s : State) : Host.Outcome State Fault Refusal := getValue .eoiRegValue x s

/-- `GET LogicalDestReg.logical_id, s` (R111). -/
def execGetLogicalDestRegLogicalId (x : Slot) (s : State) : Host.Outcome State Fault Refusal := getValue .logicalDestRegLogicalId x s

/-- `GET DestFormatReg.model, s` (R113). -/
def execGetDestFormatRegModel (x : Slot) (s : State) : Host.Outcome State Fault Refusal := getValue .destFormatRegModel x s

/-- `GET SpuriousReg.vector, s` (R115). -/
def execGetSpuriousRegVector (x : Slot) (s : State) : Host.Outcome State Fault Refusal := getValue .spuriousRegVector x s

/-- `GET SpuriousReg.enable, s` (R116). -/
def execGetSpuriousRegEnable (x : Slot) (s : State) : Host.Outcome State Fault Refusal := getValue .spuriousRegEnable x s

/-- `GET SpuriousReg.focus_check, s` (R117). -/
def execGetSpuriousRegFocusCheck (x : Slot) (s : State) : Host.Outcome State Fault Refusal := getValue .spuriousRegFocusCheck x s

/-- `GET SpuriousReg.eoi_bcast_suppress, s` (R118). -/
def execGetSpuriousRegEoiBcastSuppress (x : Slot) (s : State) : Host.Outcome State Fault Refusal := getValue .spuriousRegEoiBcastSuppress x s

/-- `GET Bitmask32Reg.bits, s` (R120). -/
def execGetBitmask32RegBits (x : Slot) (s : State) : Host.Outcome State Fault Refusal := getValue .bitmask32RegBits x s

/-- `GET ErrorStatusReg.send_checksum, s` (R122). -/
def execGetErrorStatusRegSendChecksum (x : Slot) (s : State) : Host.Outcome State Fault Refusal := getValue .errorStatusRegSendChecksum x s

/-- `GET ErrorStatusReg.recv_checksum, s` (R123). -/
def execGetErrorStatusRegRecvChecksum (x : Slot) (s : State) : Host.Outcome State Fault Refusal := getValue .errorStatusRegRecvChecksum x s

/-- `GET ErrorStatusReg.send_accept, s` (R124). -/
def execGetErrorStatusRegSendAccept (x : Slot) (s : State) : Host.Outcome State Fault Refusal := getValue .errorStatusRegSendAccept x s

/-- `GET ErrorStatusReg.recv_accept, s` (R125). -/
def execGetErrorStatusRegRecvAccept (x : Slot) (s : State) : Host.Outcome State Fault Refusal := getValue .errorStatusRegRecvAccept x s

/-- `GET ErrorStatusReg.redirectable_ipi, s` (R126). -/
def execGetErrorStatusRegRedirectableIpi (x : Slot) (s : State) : Host.Outcome State Fault Refusal := getValue .errorStatusRegRedirectableIpi x s

/-- `GET ErrorStatusReg.send_illegal_vector, s` (R127). -/
def execGetErrorStatusRegSendIllegalVector (x : Slot) (s : State) : Host.Outcome State Fault Refusal := getValue .errorStatusRegSendIllegalVector x s

/-- `GET ErrorStatusReg.recv_illegal_vector, s` (R128). -/
def execGetErrorStatusRegRecvIllegalVector (x : Slot) (s : State) : Host.Outcome State Fault Refusal := getValue .errorStatusRegRecvIllegalVector x s

/-- `GET ErrorStatusReg.illegal_reg_addr, s` (R129). -/
def execGetErrorStatusRegIllegalRegAddr (x : Slot) (s : State) : Host.Outcome State Fault Refusal := getValue .errorStatusRegIllegalRegAddr x s

/-- `GET IcrLowReg.vector, s` (R131). -/
def execGetIcrLowRegVector (x : Slot) (s : State) : Host.Outcome State Fault Refusal := getValue .icrLowRegVector x s

/-- `GET IcrLowReg.delivery_mode, s` (R132). -/
def execGetIcrLowRegDeliveryMode (x : Slot) (s : State) : Host.Outcome State Fault Refusal := getValue .icrLowRegDeliveryMode x s

/-- `GET IcrLowReg.dest_mode, s` (R133). -/
def execGetIcrLowRegDestMode (x : Slot) (s : State) : Host.Outcome State Fault Refusal := getValue .icrLowRegDestMode x s

/-- `GET IcrLowReg.delivery_status, s` (R134). -/
def execGetIcrLowRegDeliveryStatus (x : Slot) (s : State) : Host.Outcome State Fault Refusal := getValue .icrLowRegDeliveryStatus x s

/-- `GET IcrLowReg.level, s` (R135). -/
def execGetIcrLowRegLevel (x : Slot) (s : State) : Host.Outcome State Fault Refusal := getValue .icrLowRegLevel x s

/-- `GET IcrLowReg.trigger_mode, s` (R136). -/
def execGetIcrLowRegTriggerMode (x : Slot) (s : State) : Host.Outcome State Fault Refusal := getValue .icrLowRegTriggerMode x s

/-- `GET IcrLowReg.shorthand, s` (R137). -/
def execGetIcrLowRegShorthand (x : Slot) (s : State) : Host.Outcome State Fault Refusal := getValue .icrLowRegShorthand x s

/-- `GET IcrHighReg.destination, s` (R139). -/
def execGetIcrHighRegDestination (x : Slot) (s : State) : Host.Outcome State Fault Refusal := getValue .icrHighRegDestination x s

/-- `GET LvtTimerReg.vector, s` (R141). -/
def execGetLvtTimerRegVector (x : Slot) (s : State) : Host.Outcome State Fault Refusal := getValue .lvtTimerRegVector x s

/-- `GET LvtTimerReg.delivery_status, s` (R142). -/
def execGetLvtTimerRegDeliveryStatus (x : Slot) (s : State) : Host.Outcome State Fault Refusal := getValue .lvtTimerRegDeliveryStatus x s

/-- `GET LvtTimerReg.mask, s` (R143). -/
def execGetLvtTimerRegMask (x : Slot) (s : State) : Host.Outcome State Fault Refusal := getValue .lvtTimerRegMask x s

/-- `GET LvtTimerReg.timer_mode, s` (R144). -/
def execGetLvtTimerRegTimerMode (x : Slot) (s : State) : Host.Outcome State Fault Refusal := getValue .lvtTimerRegTimerMode x s

/-- `GET LvtThermalReg.vector, s` (R146). -/
def execGetLvtThermalRegVector (x : Slot) (s : State) : Host.Outcome State Fault Refusal := getValue .lvtThermalRegVector x s

/-- `GET LvtThermalReg.delivery_mode, s` (R147). -/
def execGetLvtThermalRegDeliveryMode (x : Slot) (s : State) : Host.Outcome State Fault Refusal := getValue .lvtThermalRegDeliveryMode x s

/-- `GET LvtThermalReg.delivery_status, s` (R148). -/
def execGetLvtThermalRegDeliveryStatus (x : Slot) (s : State) : Host.Outcome State Fault Refusal := getValue .lvtThermalRegDeliveryStatus x s

/-- `GET LvtThermalReg.mask, s` (R149). -/
def execGetLvtThermalRegMask (x : Slot) (s : State) : Host.Outcome State Fault Refusal := getValue .lvtThermalRegMask x s

/-- `GET LvtPerfReg.vector, s` (R151). -/
def execGetLvtPerfRegVector (x : Slot) (s : State) : Host.Outcome State Fault Refusal := getValue .lvtPerfRegVector x s

/-- `GET LvtPerfReg.delivery_mode, s` (R152). -/
def execGetLvtPerfRegDeliveryMode (x : Slot) (s : State) : Host.Outcome State Fault Refusal := getValue .lvtPerfRegDeliveryMode x s

/-- `GET LvtPerfReg.delivery_status, s` (R153). -/
def execGetLvtPerfRegDeliveryStatus (x : Slot) (s : State) : Host.Outcome State Fault Refusal := getValue .lvtPerfRegDeliveryStatus x s

/-- `GET LvtPerfReg.mask, s` (R154). -/
def execGetLvtPerfRegMask (x : Slot) (s : State) : Host.Outcome State Fault Refusal := getValue .lvtPerfRegMask x s

/-- `GET LvtLintReg.vector, s` (R156). -/
def execGetLvtLintRegVector (x : Slot) (s : State) : Host.Outcome State Fault Refusal := getValue .lvtLintRegVector x s

/-- `GET LvtLintReg.delivery_mode, s` (R157). -/
def execGetLvtLintRegDeliveryMode (x : Slot) (s : State) : Host.Outcome State Fault Refusal := getValue .lvtLintRegDeliveryMode x s

/-- `GET LvtLintReg.delivery_status, s` (R158). -/
def execGetLvtLintRegDeliveryStatus (x : Slot) (s : State) : Host.Outcome State Fault Refusal := getValue .lvtLintRegDeliveryStatus x s

/-- `GET LvtLintReg.polarity, s` (R159). -/
def execGetLvtLintRegPolarity (x : Slot) (s : State) : Host.Outcome State Fault Refusal := getValue .lvtLintRegPolarity x s

/-- `GET LvtLintReg.remote_irr, s` (R160). -/
def execGetLvtLintRegRemoteIrr (x : Slot) (s : State) : Host.Outcome State Fault Refusal := getValue .lvtLintRegRemoteIrr x s

/-- `GET LvtLintReg.trigger_mode, s` (R161). -/
def execGetLvtLintRegTriggerMode (x : Slot) (s : State) : Host.Outcome State Fault Refusal := getValue .lvtLintRegTriggerMode x s

/-- `GET LvtLintReg.mask, s` (R162). -/
def execGetLvtLintRegMask (x : Slot) (s : State) : Host.Outcome State Fault Refusal := getValue .lvtLintRegMask x s

/-- `GET LvtErrorReg.vector, s` (R164). -/
def execGetLvtErrorRegVector (x : Slot) (s : State) : Host.Outcome State Fault Refusal := getValue .lvtErrorRegVector x s

/-- `GET LvtErrorReg.delivery_status, s` (R165). -/
def execGetLvtErrorRegDeliveryStatus (x : Slot) (s : State) : Host.Outcome State Fault Refusal := getValue .lvtErrorRegDeliveryStatus x s

/-- `GET LvtErrorReg.mask, s` (R166). -/
def execGetLvtErrorRegMask (x : Slot) (s : State) : Host.Outcome State Fault Refusal := getValue .lvtErrorRegMask x s

/-- `GET TimerCountReg.count, s` (R168). -/
def execGetTimerCountRegCount (x : Slot) (s : State) : Host.Outcome State Fault Refusal := getValue .timerCountRegCount x s

/-- `GET TimerDivideReg.div_lo, s` (R170). -/
def execGetTimerDivideRegDivLo (x : Slot) (s : State) : Host.Outcome State Fault Refusal := getValue .timerDivideRegDivLo x s

/-- `GET TimerDivideReg.div_hi, s` (R171). -/
def execGetTimerDivideRegDivHi (x : Slot) (s : State) : Host.Outcome State Fault Refusal := getValue .timerDivideRegDivHi x s

end Sys2Proof.Machine
end

