-- ==== Sys2Proof/Machine/Setters.lean ====
section
/-! DEFINITION. The setter of each of the 54 named fields, on a slot value the host supplies: the instances of
40_value_ops.md R79 for the descriptors of 30_encoding.md R55. -/

namespace Sys2Proof.Machine

/-- `WITH IdReg.id, s, v` (R101). -/
def execWithIdRegId (x : Slot) (v : RegWord) (s : State) : Host.Outcome State Fault Refusal := withValue .idRegId x v s

/-- `WITH VersionReg.version, s, v` (R103). -/
def execWithVersionRegVersion (x : Slot) (v : RegWord) (s : State) : Host.Outcome State Fault Refusal := withValue .versionRegVersion x v s

/-- `WITH VersionReg.max_lvt_entry, s, v` (R104). -/
def execWithVersionRegMaxLvtEntry (x : Slot) (v : RegWord) (s : State) : Host.Outcome State Fault Refusal := withValue .versionRegMaxLvtEntry x v s

/-- `WITH PriorityReg.subclass, s, v` (R106). -/
def execWithPriorityRegSubclass (x : Slot) (v : RegWord) (s : State) : Host.Outcome State Fault Refusal := withValue .priorityRegSubclass x v s

/-- `WITH PriorityReg.class, s, v` (R107). -/
def execWithPriorityRegClass (x : Slot) (v : RegWord) (s : State) : Host.Outcome State Fault Refusal := withValue .priorityRegClass x v s

/-- `WITH EoiReg.value, s, v` (R109). -/
def execWithEoiRegValue (x : Slot) (v : RegWord) (s : State) : Host.Outcome State Fault Refusal := withValue .eoiRegValue x v s

/-- `WITH LogicalDestReg.logical_id, s, v` (R111). -/
def execWithLogicalDestRegLogicalId (x : Slot) (v : RegWord) (s : State) : Host.Outcome State Fault Refusal := withValue .logicalDestRegLogicalId x v s

/-- `WITH DestFormatReg.model, s, v` (R113). -/
def execWithDestFormatRegModel (x : Slot) (v : RegWord) (s : State) : Host.Outcome State Fault Refusal := withValue .destFormatRegModel x v s

/-- `WITH SpuriousReg.vector, s, v` (R115). -/
def execWithSpuriousRegVector (x : Slot) (v : RegWord) (s : State) : Host.Outcome State Fault Refusal := withValue .spuriousRegVector x v s

/-- `WITH SpuriousReg.enable, s, v` (R116). -/
def execWithSpuriousRegEnable (x : Slot) (v : RegWord) (s : State) : Host.Outcome State Fault Refusal := withValue .spuriousRegEnable x v s

/-- `WITH SpuriousReg.focus_check, s, v` (R117). -/
def execWithSpuriousRegFocusCheck (x : Slot) (v : RegWord) (s : State) : Host.Outcome State Fault Refusal := withValue .spuriousRegFocusCheck x v s

/-- `WITH SpuriousReg.eoi_bcast_suppress, s, v` (R118). -/
def execWithSpuriousRegEoiBcastSuppress (x : Slot) (v : RegWord) (s : State) : Host.Outcome State Fault Refusal := withValue .spuriousRegEoiBcastSuppress x v s

/-- `WITH Bitmask32Reg.bits, s, v` (R120). -/
def execWithBitmask32RegBits (x : Slot) (v : RegWord) (s : State) : Host.Outcome State Fault Refusal := withValue .bitmask32RegBits x v s

/-- `WITH ErrorStatusReg.send_checksum, s, v` (R122). -/
def execWithErrorStatusRegSendChecksum (x : Slot) (v : RegWord) (s : State) : Host.Outcome State Fault Refusal := withValue .errorStatusRegSendChecksum x v s

/-- `WITH ErrorStatusReg.recv_checksum, s, v` (R123). -/
def execWithErrorStatusRegRecvChecksum (x : Slot) (v : RegWord) (s : State) : Host.Outcome State Fault Refusal := withValue .errorStatusRegRecvChecksum x v s

/-- `WITH ErrorStatusReg.send_accept, s, v` (R124). -/
def execWithErrorStatusRegSendAccept (x : Slot) (v : RegWord) (s : State) : Host.Outcome State Fault Refusal := withValue .errorStatusRegSendAccept x v s

/-- `WITH ErrorStatusReg.recv_accept, s, v` (R125). -/
def execWithErrorStatusRegRecvAccept (x : Slot) (v : RegWord) (s : State) : Host.Outcome State Fault Refusal := withValue .errorStatusRegRecvAccept x v s

/-- `WITH ErrorStatusReg.redirectable_ipi, s, v` (R126). -/
def execWithErrorStatusRegRedirectableIpi (x : Slot) (v : RegWord) (s : State) : Host.Outcome State Fault Refusal := withValue .errorStatusRegRedirectableIpi x v s

/-- `WITH ErrorStatusReg.send_illegal_vector, s, v` (R127). -/
def execWithErrorStatusRegSendIllegalVector (x : Slot) (v : RegWord) (s : State) : Host.Outcome State Fault Refusal := withValue .errorStatusRegSendIllegalVector x v s

/-- `WITH ErrorStatusReg.recv_illegal_vector, s, v` (R128). -/
def execWithErrorStatusRegRecvIllegalVector (x : Slot) (v : RegWord) (s : State) : Host.Outcome State Fault Refusal := withValue .errorStatusRegRecvIllegalVector x v s

/-- `WITH ErrorStatusReg.illegal_reg_addr, s, v` (R129). -/
def execWithErrorStatusRegIllegalRegAddr (x : Slot) (v : RegWord) (s : State) : Host.Outcome State Fault Refusal := withValue .errorStatusRegIllegalRegAddr x v s

/-- `WITH IcrLowReg.vector, s, v` (R131). -/
def execWithIcrLowRegVector (x : Slot) (v : RegWord) (s : State) : Host.Outcome State Fault Refusal := withValue .icrLowRegVector x v s

/-- `WITH IcrLowReg.delivery_mode, s, v` (R132). -/
def execWithIcrLowRegDeliveryMode (x : Slot) (v : RegWord) (s : State) : Host.Outcome State Fault Refusal := withValue .icrLowRegDeliveryMode x v s

/-- `WITH IcrLowReg.dest_mode, s, v` (R133). -/
def execWithIcrLowRegDestMode (x : Slot) (v : RegWord) (s : State) : Host.Outcome State Fault Refusal := withValue .icrLowRegDestMode x v s

/-- `WITH IcrLowReg.delivery_status, s, v` (R134). -/
def execWithIcrLowRegDeliveryStatus (x : Slot) (v : RegWord) (s : State) : Host.Outcome State Fault Refusal := withValue .icrLowRegDeliveryStatus x v s

/-- `WITH IcrLowReg.level, s, v` (R135). -/
def execWithIcrLowRegLevel (x : Slot) (v : RegWord) (s : State) : Host.Outcome State Fault Refusal := withValue .icrLowRegLevel x v s

/-- `WITH IcrLowReg.trigger_mode, s, v` (R136). -/
def execWithIcrLowRegTriggerMode (x : Slot) (v : RegWord) (s : State) : Host.Outcome State Fault Refusal := withValue .icrLowRegTriggerMode x v s

/-- `WITH IcrLowReg.shorthand, s, v` (R137). -/
def execWithIcrLowRegShorthand (x : Slot) (v : RegWord) (s : State) : Host.Outcome State Fault Refusal := withValue .icrLowRegShorthand x v s

/-- `WITH IcrHighReg.destination, s, v` (R139). -/
def execWithIcrHighRegDestination (x : Slot) (v : RegWord) (s : State) : Host.Outcome State Fault Refusal := withValue .icrHighRegDestination x v s

/-- `WITH LvtTimerReg.vector, s, v` (R141). -/
def execWithLvtTimerRegVector (x : Slot) (v : RegWord) (s : State) : Host.Outcome State Fault Refusal := withValue .lvtTimerRegVector x v s

/-- `WITH LvtTimerReg.delivery_status, s, v` (R142). -/
def execWithLvtTimerRegDeliveryStatus (x : Slot) (v : RegWord) (s : State) : Host.Outcome State Fault Refusal := withValue .lvtTimerRegDeliveryStatus x v s

/-- `WITH LvtTimerReg.mask, s, v` (R143). -/
def execWithLvtTimerRegMask (x : Slot) (v : RegWord) (s : State) : Host.Outcome State Fault Refusal := withValue .lvtTimerRegMask x v s

/-- `WITH LvtTimerReg.timer_mode, s, v` (R144). -/
def execWithLvtTimerRegTimerMode (x : Slot) (v : RegWord) (s : State) : Host.Outcome State Fault Refusal := withValue .lvtTimerRegTimerMode x v s

/-- `WITH LvtThermalReg.vector, s, v` (R146). -/
def execWithLvtThermalRegVector (x : Slot) (v : RegWord) (s : State) : Host.Outcome State Fault Refusal := withValue .lvtThermalRegVector x v s

/-- `WITH LvtThermalReg.delivery_mode, s, v` (R147). -/
def execWithLvtThermalRegDeliveryMode (x : Slot) (v : RegWord) (s : State) : Host.Outcome State Fault Refusal := withValue .lvtThermalRegDeliveryMode x v s

/-- `WITH LvtThermalReg.delivery_status, s, v` (R148). -/
def execWithLvtThermalRegDeliveryStatus (x : Slot) (v : RegWord) (s : State) : Host.Outcome State Fault Refusal := withValue .lvtThermalRegDeliveryStatus x v s

/-- `WITH LvtThermalReg.mask, s, v` (R149). -/
def execWithLvtThermalRegMask (x : Slot) (v : RegWord) (s : State) : Host.Outcome State Fault Refusal := withValue .lvtThermalRegMask x v s

/-- `WITH LvtPerfReg.vector, s, v` (R151). -/
def execWithLvtPerfRegVector (x : Slot) (v : RegWord) (s : State) : Host.Outcome State Fault Refusal := withValue .lvtPerfRegVector x v s

/-- `WITH LvtPerfReg.delivery_mode, s, v` (R152). -/
def execWithLvtPerfRegDeliveryMode (x : Slot) (v : RegWord) (s : State) : Host.Outcome State Fault Refusal := withValue .lvtPerfRegDeliveryMode x v s

/-- `WITH LvtPerfReg.delivery_status, s, v` (R153). -/
def execWithLvtPerfRegDeliveryStatus (x : Slot) (v : RegWord) (s : State) : Host.Outcome State Fault Refusal := withValue .lvtPerfRegDeliveryStatus x v s

/-- `WITH LvtPerfReg.mask, s, v` (R154). -/
def execWithLvtPerfRegMask (x : Slot) (v : RegWord) (s : State) : Host.Outcome State Fault Refusal := withValue .lvtPerfRegMask x v s

/-- `WITH LvtLintReg.vector, s, v` (R156). -/
def execWithLvtLintRegVector (x : Slot) (v : RegWord) (s : State) : Host.Outcome State Fault Refusal := withValue .lvtLintRegVector x v s

/-- `WITH LvtLintReg.delivery_mode, s, v` (R157). -/
def execWithLvtLintRegDeliveryMode (x : Slot) (v : RegWord) (s : State) : Host.Outcome State Fault Refusal := withValue .lvtLintRegDeliveryMode x v s

/-- `WITH LvtLintReg.delivery_status, s, v` (R158). -/
def execWithLvtLintRegDeliveryStatus (x : Slot) (v : RegWord) (s : State) : Host.Outcome State Fault Refusal := withValue .lvtLintRegDeliveryStatus x v s

/-- `WITH LvtLintReg.polarity, s, v` (R159). -/
def execWithLvtLintRegPolarity (x : Slot) (v : RegWord) (s : State) : Host.Outcome State Fault Refusal := withValue .lvtLintRegPolarity x v s

/-- `WITH LvtLintReg.remote_irr, s, v` (R160). -/
def execWithLvtLintRegRemoteIrr (x : Slot) (v : RegWord) (s : State) : Host.Outcome State Fault Refusal := withValue .lvtLintRegRemoteIrr x v s

/-- `WITH LvtLintReg.trigger_mode, s, v` (R161). -/
def execWithLvtLintRegTriggerMode (x : Slot) (v : RegWord) (s : State) : Host.Outcome State Fault Refusal := withValue .lvtLintRegTriggerMode x v s

/-- `WITH LvtLintReg.mask, s, v` (R162). -/
def execWithLvtLintRegMask (x : Slot) (v : RegWord) (s : State) : Host.Outcome State Fault Refusal := withValue .lvtLintRegMask x v s

/-- `WITH LvtErrorReg.vector, s, v` (R164). -/
def execWithLvtErrorRegVector (x : Slot) (v : RegWord) (s : State) : Host.Outcome State Fault Refusal := withValue .lvtErrorRegVector x v s

/-- `WITH LvtErrorReg.delivery_status, s, v` (R165). -/
def execWithLvtErrorRegDeliveryStatus (x : Slot) (v : RegWord) (s : State) : Host.Outcome State Fault Refusal := withValue .lvtErrorRegDeliveryStatus x v s

/-- `WITH LvtErrorReg.mask, s, v` (R166). -/
def execWithLvtErrorRegMask (x : Slot) (v : RegWord) (s : State) : Host.Outcome State Fault Refusal := withValue .lvtErrorRegMask x v s

/-- `WITH TimerCountReg.count, s, v` (R168). -/
def execWithTimerCountRegCount (x : Slot) (v : RegWord) (s : State) : Host.Outcome State Fault Refusal := withValue .timerCountRegCount x v s

/-- `WITH TimerDivideReg.div_lo, s, v` (R170). -/
def execWithTimerDivideRegDivLo (x : Slot) (v : RegWord) (s : State) : Host.Outcome State Fault Refusal := withValue .timerDivideRegDivLo x v s

/-- `WITH TimerDivideReg.div_hi, s, v` (R171). -/
def execWithTimerDivideRegDivHi (x : Slot) (v : RegWord) (s : State) : Host.Outcome State Fault Refusal := withValue .timerDivideRegDivHi x v s

end Sys2Proof.Machine
end

