-- ==== Sys2Proof/Machine/Value.lean ====
section
/-! DEFINITION. The seven value-level operations (40_value_ops.md R76 to R83): pure functions of a slot value the host
supplies or, for `SET`, holds. None touches the block. -/

namespace Sys2Proof.Machine

/-- `DEFAULT T`: 128 zero bits for every `T` (R77). -/
def execOpDefault (_ : RegType) (s : State) : Host.Outcome State Fault Refusal := .next (s.give 0#128)

/-- `GET T.f, s` (R78). -/
def execOpGet (f : Field) (x : Slot) (s : State) : Host.Outcome State Fault Refusal := getValue f x s

/-- `WITH T.f, s, v` (R79). -/
def execOpWith (f : Field) (x : Slot) (v : RegWord) (s : State) : Host.Outcome State Fault Refusal := withValue f x v s

/-- `SET T.f, s, v`: the held value becomes `WITH` of it; nothing else changes (R80). -/
def execOpSet (f : Field) (v : RegWord) (s : State) : Host.Outcome State Fault Refusal :=
  .next { s with held := withField f s.held v }

/-- `TO_BYTES s`: 16 bytes (R81). -/
def execToBytes (x : Slot) (s : State) : Host.Outcome State Fault Refusal := .next (s.ret (.bytes (slotBytes x)))

/-- `FROM_BYTES b`: the slot value of 16 bytes, nothing dropped or zeroed (R82). -/
def execFromBytes (b : List Byte) (s : State) : Host.Outcome State Fault Refusal :=
  if b.length = 16 then .next (s.give (ofBytes 128 b)) else .refused (.wrongByteCount 16 b.length)

/-- `EQ s, t`: equality of all 128 bits (R83). -/
def execOpEq (x y : Slot) (s : State) : Host.Outcome State Fault Refusal := .next (s.ret (.truth (x == y)))

end Sys2Proof.Machine
end

