-- ==== Sys2Proof/Machine/Dispatch.lean ====
section
/-! DEFINITION. The dispatch: one arm per constructor of `Instr`, each one call of that instruction's own meaning. -/

namespace Sys2Proof.Machine

def exec (i : Instr) (s : State) : Host.Outcome State Fault Refusal :=
  match i with
  | .opDefault t => Sys2Proof.Machine.execOpDefault t s
  | .opGet f x => Sys2Proof.Machine.execOpGet f x s
  | .opWith f x v => Sys2Proof.Machine.execOpWith f x v s
  | .opSet f v => Sys2Proof.Machine.execOpSet f v s
  | .toBytes x => Sys2Proof.Machine.execToBytes x s
  | .fromBytes b => Sys2Proof.Machine.execFromBytes b s
  | .opEq x y => Sys2Proof.Machine.execOpEq x y s
  | .rfDefault => Sys2Proof.Machine.execRfDefault s
  | .rfToBytes => Sys2Proof.Machine.execRfToBytes s
  | .rfFromBytes b => Sys2Proof.Machine.execRfFromBytes b s
  | .rd addr n => Sys2Proof.Machine.execRd addr n s
  | .wr addr data => Sys2Proof.Machine.execWr addr data s
  | .rds e => Sys2Proof.Machine.execRds e s
  | .wrs e v => Sys2Proof.Machine.execWrs e v s
  | .rdw e => Sys2Proof.Machine.execRdw e s
  | .wrw e v => Sys2Proof.Machine.execWrw e v s
  | .getf e f => Sys2Proof.Machine.execGetf e f s
  | .setf e f v => Sys2Proof.Machine.execSetf e f v s
  | .accId byte t => Sys2Proof.Machine.execAccId byte t s
  | .accVer byte t => Sys2Proof.Machine.execAccVer byte t s
  | .accTpr byte t => Sys2Proof.Machine.execAccTpr byte t s
  | .accApr byte t => Sys2Proof.Machine.execAccApr byte t s
  | .accPpr byte t => Sys2Proof.Machine.execAccPpr byte t s
  | .accEoi byte t => Sys2Proof.Machine.execAccEoi byte t s
  | .accLdr byte t => Sys2Proof.Machine.execAccLdr byte t s
  | .accDfr byte t => Sys2Proof.Machine.execAccDfr byte t s
  | .accSvr byte t => Sys2Proof.Machine.execAccSvr byte t s
  | .accIsr k byte t => Sys2Proof.Machine.execAccIsr k byte t s
  | .accTmr k byte t => Sys2Proof.Machine.execAccTmr k byte t s
  | .accIrr k byte t => Sys2Proof.Machine.execAccIrr k byte t s
  | .accEsr byte t => Sys2Proof.Machine.execAccEsr byte t s
  | .accIcrl byte t => Sys2Proof.Machine.execAccIcrl byte t s
  | .accIcrh byte t => Sys2Proof.Machine.execAccIcrh byte t s
  | .accLvtt byte t => Sys2Proof.Machine.execAccLvtt byte t s
  | .accLvtth byte t => Sys2Proof.Machine.execAccLvtth byte t s
  | .accLvtpc byte t => Sys2Proof.Machine.execAccLvtpc byte t s
  | .accLvtl0 byte t => Sys2Proof.Machine.execAccLvtl0 byte t s
  | .accLvtl1 byte t => Sys2Proof.Machine.execAccLvtl1 byte t s
  | .accLvterr byte t => Sys2Proof.Machine.execAccLvterr byte t s
  | .accTicr byte t => Sys2Proof.Machine.execAccTicr byte t s
  | .accTccr byte t => Sys2Proof.Machine.execAccTccr byte t s
  | .accTdcr byte t => Sys2Proof.Machine.execAccTdcr byte t s
  | .accRsv0 off t => Sys2Proof.Machine.execAccRsv0 off t s
  | .accRsv1 off t => Sys2Proof.Machine.execAccRsv1 off t s
  | .accRsv2 off t => Sys2Proof.Machine.execAccRsv2 off t s
  | .accRsv3Slot41 off t => Sys2Proof.Machine.execAccRsv3Slot41 off t s
  | .accRsv3Slots42To43 off t => Sys2Proof.Machine.execAccRsv3Slots42To43 off t s
  | .accRsv3Slots44To47 off t => Sys2Proof.Machine.execAccRsv3Slots44To47 off t s
  | .accRsv4Slots58To59 off t => Sys2Proof.Machine.execAccRsv4Slots58To59 off t s
  | .accRsv4Slots60To61 off t => Sys2Proof.Machine.execAccRsv4Slots60To61 off t s
  | .accRsv5 off t => Sys2Proof.Machine.execAccRsv5 off t s
  | .getIdRegId x => Sys2Proof.Machine.execGetIdRegId x s
  | .withIdRegId x v => Sys2Proof.Machine.execWithIdRegId x v s
  | .getVersionRegVersion x => Sys2Proof.Machine.execGetVersionRegVersion x s
  | .withVersionRegVersion x v => Sys2Proof.Machine.execWithVersionRegVersion x v s
  | .getVersionRegMaxLvtEntry x => Sys2Proof.Machine.execGetVersionRegMaxLvtEntry x s
  | .withVersionRegMaxLvtEntry x v => Sys2Proof.Machine.execWithVersionRegMaxLvtEntry x v s
  | .getPriorityRegSubclass x => Sys2Proof.Machine.execGetPriorityRegSubclass x s
  | .withPriorityRegSubclass x v => Sys2Proof.Machine.execWithPriorityRegSubclass x v s
  | .getPriorityRegClass x => Sys2Proof.Machine.execGetPriorityRegClass x s
  | .withPriorityRegClass x v => Sys2Proof.Machine.execWithPriorityRegClass x v s
  | .getEoiRegValue x => Sys2Proof.Machine.execGetEoiRegValue x s
  | .withEoiRegValue x v => Sys2Proof.Machine.execWithEoiRegValue x v s
  | .getLogicalDestRegLogicalId x => Sys2Proof.Machine.execGetLogicalDestRegLogicalId x s
  | .withLogicalDestRegLogicalId x v => Sys2Proof.Machine.execWithLogicalDestRegLogicalId x v s
  | .getDestFormatRegModel x => Sys2Proof.Machine.execGetDestFormatRegModel x s
  | .withDestFormatRegModel x v => Sys2Proof.Machine.execWithDestFormatRegModel x v s
  | .getSpuriousRegVector x => Sys2Proof.Machine.execGetSpuriousRegVector x s
  | .withSpuriousRegVector x v => Sys2Proof.Machine.execWithSpuriousRegVector x v s
  | .getSpuriousRegEnable x => Sys2Proof.Machine.execGetSpuriousRegEnable x s
  | .withSpuriousRegEnable x v => Sys2Proof.Machine.execWithSpuriousRegEnable x v s
  | .getSpuriousRegFocusCheck x => Sys2Proof.Machine.execGetSpuriousRegFocusCheck x s
  | .withSpuriousRegFocusCheck x v => Sys2Proof.Machine.execWithSpuriousRegFocusCheck x v s
  | .getSpuriousRegEoiBcastSuppress x => Sys2Proof.Machine.execGetSpuriousRegEoiBcastSuppress x s
  | .withSpuriousRegEoiBcastSuppress x v => Sys2Proof.Machine.execWithSpuriousRegEoiBcastSuppress x v s
  | .getBitmask32RegBits x => Sys2Proof.Machine.execGetBitmask32RegBits x s
  | .withBitmask32RegBits x v => Sys2Proof.Machine.execWithBitmask32RegBits x v s
  | .getErrorStatusRegSendChecksum x => Sys2Proof.Machine.execGetErrorStatusRegSendChecksum x s
  | .withErrorStatusRegSendChecksum x v => Sys2Proof.Machine.execWithErrorStatusRegSendChecksum x v s
  | .getErrorStatusRegRecvChecksum x => Sys2Proof.Machine.execGetErrorStatusRegRecvChecksum x s
  | .withErrorStatusRegRecvChecksum x v => Sys2Proof.Machine.execWithErrorStatusRegRecvChecksum x v s
  | .getErrorStatusRegSendAccept x => Sys2Proof.Machine.execGetErrorStatusRegSendAccept x s
  | .withErrorStatusRegSendAccept x v => Sys2Proof.Machine.execWithErrorStatusRegSendAccept x v s
  | .getErrorStatusRegRecvAccept x => Sys2Proof.Machine.execGetErrorStatusRegRecvAccept x s
  | .withErrorStatusRegRecvAccept x v => Sys2Proof.Machine.execWithErrorStatusRegRecvAccept x v s
  | .getErrorStatusRegRedirectableIpi x => Sys2Proof.Machine.execGetErrorStatusRegRedirectableIpi x s
  | .withErrorStatusRegRedirectableIpi x v => Sys2Proof.Machine.execWithErrorStatusRegRedirectableIpi x v s
  | .getErrorStatusRegSendIllegalVector x => Sys2Proof.Machine.execGetErrorStatusRegSendIllegalVector x s
  | .withErrorStatusRegSendIllegalVector x v => Sys2Proof.Machine.execWithErrorStatusRegSendIllegalVector x v s
  | .getErrorStatusRegRecvIllegalVector x => Sys2Proof.Machine.execGetErrorStatusRegRecvIllegalVector x s
  | .withErrorStatusRegRecvIllegalVector x v => Sys2Proof.Machine.execWithErrorStatusRegRecvIllegalVector x v s
  | .getErrorStatusRegIllegalRegAddr x => Sys2Proof.Machine.execGetErrorStatusRegIllegalRegAddr x s
  | .withErrorStatusRegIllegalRegAddr x v => Sys2Proof.Machine.execWithErrorStatusRegIllegalRegAddr x v s
  | .getIcrLowRegVector x => Sys2Proof.Machine.execGetIcrLowRegVector x s
  | .withIcrLowRegVector x v => Sys2Proof.Machine.execWithIcrLowRegVector x v s
  | .getIcrLowRegDeliveryMode x => Sys2Proof.Machine.execGetIcrLowRegDeliveryMode x s
  | .withIcrLowRegDeliveryMode x v => Sys2Proof.Machine.execWithIcrLowRegDeliveryMode x v s
  | .getIcrLowRegDestMode x => Sys2Proof.Machine.execGetIcrLowRegDestMode x s
  | .withIcrLowRegDestMode x v => Sys2Proof.Machine.execWithIcrLowRegDestMode x v s
  | .getIcrLowRegDeliveryStatus x => Sys2Proof.Machine.execGetIcrLowRegDeliveryStatus x s
  | .withIcrLowRegDeliveryStatus x v => Sys2Proof.Machine.execWithIcrLowRegDeliveryStatus x v s
  | .getIcrLowRegLevel x => Sys2Proof.Machine.execGetIcrLowRegLevel x s
  | .withIcrLowRegLevel x v => Sys2Proof.Machine.execWithIcrLowRegLevel x v s
  | .getIcrLowRegTriggerMode x => Sys2Proof.Machine.execGetIcrLowRegTriggerMode x s
  | .withIcrLowRegTriggerMode x v => Sys2Proof.Machine.execWithIcrLowRegTriggerMode x v s
  | .getIcrLowRegShorthand x => Sys2Proof.Machine.execGetIcrLowRegShorthand x s
  | .withIcrLowRegShorthand x v => Sys2Proof.Machine.execWithIcrLowRegShorthand x v s
  | .getIcrHighRegDestination x => Sys2Proof.Machine.execGetIcrHighRegDestination x s
  | .withIcrHighRegDestination x v => Sys2Proof.Machine.execWithIcrHighRegDestination x v s
  | .getLvtTimerRegVector x => Sys2Proof.Machine.execGetLvtTimerRegVector x s
  | .withLvtTimerRegVector x v => Sys2Proof.Machine.execWithLvtTimerRegVector x v s
  | .getLvtTimerRegDeliveryStatus x => Sys2Proof.Machine.execGetLvtTimerRegDeliveryStatus x s
  | .withLvtTimerRegDeliveryStatus x v => Sys2Proof.Machine.execWithLvtTimerRegDeliveryStatus x v s
  | .getLvtTimerRegMask x => Sys2Proof.Machine.execGetLvtTimerRegMask x s
  | .withLvtTimerRegMask x v => Sys2Proof.Machine.execWithLvtTimerRegMask x v s
  | .getLvtTimerRegTimerMode x => Sys2Proof.Machine.execGetLvtTimerRegTimerMode x s
  | .withLvtTimerRegTimerMode x v => Sys2Proof.Machine.execWithLvtTimerRegTimerMode x v s
  | .getLvtThermalRegVector x => Sys2Proof.Machine.execGetLvtThermalRegVector x s
  | .withLvtThermalRegVector x v => Sys2Proof.Machine.execWithLvtThermalRegVector x v s
  | .getLvtThermalRegDeliveryMode x => Sys2Proof.Machine.execGetLvtThermalRegDeliveryMode x s
  | .withLvtThermalRegDeliveryMode x v => Sys2Proof.Machine.execWithLvtThermalRegDeliveryMode x v s
  | .getLvtThermalRegDeliveryStatus x => Sys2Proof.Machine.execGetLvtThermalRegDeliveryStatus x s
  | .withLvtThermalRegDeliveryStatus x v => Sys2Proof.Machine.execWithLvtThermalRegDeliveryStatus x v s
  | .getLvtThermalRegMask x => Sys2Proof.Machine.execGetLvtThermalRegMask x s
  | .withLvtThermalRegMask x v => Sys2Proof.Machine.execWithLvtThermalRegMask x v s
  | .getLvtPerfRegVector x => Sys2Proof.Machine.execGetLvtPerfRegVector x s
  | .withLvtPerfRegVector x v => Sys2Proof.Machine.execWithLvtPerfRegVector x v s
  | .getLvtPerfRegDeliveryMode x => Sys2Proof.Machine.execGetLvtPerfRegDeliveryMode x s
  | .withLvtPerfRegDeliveryMode x v => Sys2Proof.Machine.execWithLvtPerfRegDeliveryMode x v s
  | .getLvtPerfRegDeliveryStatus x => Sys2Proof.Machine.execGetLvtPerfRegDeliveryStatus x s
  | .withLvtPerfRegDeliveryStatus x v => Sys2Proof.Machine.execWithLvtPerfRegDeliveryStatus x v s
  | .getLvtPerfRegMask x => Sys2Proof.Machine.execGetLvtPerfRegMask x s
  | .withLvtPerfRegMask x v => Sys2Proof.Machine.execWithLvtPerfRegMask x v s
  | .getLvtLintRegVector x => Sys2Proof.Machine.execGetLvtLintRegVector x s
  | .withLvtLintRegVector x v => Sys2Proof.Machine.execWithLvtLintRegVector x v s
  | .getLvtLintRegDeliveryMode x => Sys2Proof.Machine.execGetLvtLintRegDeliveryMode x s
  | .withLvtLintRegDeliveryMode x v => Sys2Proof.Machine.execWithLvtLintRegDeliveryMode x v s
  | .getLvtLintRegDeliveryStatus x => Sys2Proof.Machine.execGetLvtLintRegDeliveryStatus x s
  | .withLvtLintRegDeliveryStatus x v => Sys2Proof.Machine.execWithLvtLintRegDeliveryStatus x v s
  | .getLvtLintRegPolarity x => Sys2Proof.Machine.execGetLvtLintRegPolarity x s
  | .withLvtLintRegPolarity x v => Sys2Proof.Machine.execWithLvtLintRegPolarity x v s
  | .getLvtLintRegRemoteIrr x => Sys2Proof.Machine.execGetLvtLintRegRemoteIrr x s
  | .withLvtLintRegRemoteIrr x v => Sys2Proof.Machine.execWithLvtLintRegRemoteIrr x v s
  | .getLvtLintRegTriggerMode x => Sys2Proof.Machine.execGetLvtLintRegTriggerMode x s
  | .withLvtLintRegTriggerMode x v => Sys2Proof.Machine.execWithLvtLintRegTriggerMode x v s
  | .getLvtLintRegMask x => Sys2Proof.Machine.execGetLvtLintRegMask x s
  | .withLvtLintRegMask x v => Sys2Proof.Machine.execWithLvtLintRegMask x v s
  | .getLvtErrorRegVector x => Sys2Proof.Machine.execGetLvtErrorRegVector x s
  | .withLvtErrorRegVector x v => Sys2Proof.Machine.execWithLvtErrorRegVector x v s
  | .getLvtErrorRegDeliveryStatus x => Sys2Proof.Machine.execGetLvtErrorRegDeliveryStatus x s
  | .withLvtErrorRegDeliveryStatus x v => Sys2Proof.Machine.execWithLvtErrorRegDeliveryStatus x v s
  | .getLvtErrorRegMask x => Sys2Proof.Machine.execGetLvtErrorRegMask x s
  | .withLvtErrorRegMask x v => Sys2Proof.Machine.execWithLvtErrorRegMask x v s
  | .getTimerCountRegCount x => Sys2Proof.Machine.execGetTimerCountRegCount x s
  | .withTimerCountRegCount x v => Sys2Proof.Machine.execWithTimerCountRegCount x v s
  | .getTimerDivideRegDivLo x => Sys2Proof.Machine.execGetTimerDivideRegDivLo x s
  | .withTimerDivideRegDivLo x v => Sys2Proof.Machine.execWithTimerDivideRegDivLo x v s
  | .getTimerDivideRegDivHi x => Sys2Proof.Machine.execGetTimerDivideRegDivHi x s
  | .withTimerDivideRegDivHi x v => Sys2Proof.Machine.execWithTimerDivideRegDivHi x v s

end Sys2Proof.Machine
end

