-- ==== Sys2Proof/Decode.lean ====
section
/-! DEFINITION. The byte form of an operation, decoded and encoded. The spec gives operations no bytes ("This hardware has
no instruction words", 30_encoding.md); the form is the model's (log 1). It is built round what the table does give:
the low ten bits of the head word of a transaction are the block offset, decoded by the match and mask rows of
30_encoding.md R59.

Head word, 16 bits, little-endian: bits 15:10 class, bits 9:0 payload.
* class 0: a transaction record (R58); payload the offset; then a word with bit 10 the kind (0 R, 1 W) and bits 9:0
  the byte count less one; then, for W, the data bytes.
* class 1: one of the 18 generic operations of R65; payload its number; then its operands.
* class 2, class 3: the getter, the setter of one named field; payload the field's number; then the slot value, and
  the setter's operand in four bytes.
Operands: an entry is a word with its slot index (43_regfile_ops.md R182), a field or a type a word with its number,
a slot value 16 bytes, a field operand or a register word 4 bytes, an offset or a count a word of 11 used bits. -/

namespace Sys2Proof

/-- What the decoder answers. -/
inductive Decoded where
  | ok (i : Instr) (rest : List Byte)
  | bad (why : DecodeError)
  deriving DecidableEq, Repr

/-- The named fields by number (30_encoding.md R55's order). -/
def Field.all : List Field :=
  ([.idRegId] : List Field)
    ++ ([.versionRegVersion, .versionRegMaxLvtEntry] : List Field)
    ++ ([.priorityRegSubclass, .priorityRegClass] : List Field)
    ++ ([.eoiRegValue] : List Field)
    ++ ([.logicalDestRegLogicalId] : List Field)
    ++ ([.destFormatRegModel] : List Field)
    ++ ([.spuriousRegVector, .spuriousRegEnable, .spuriousRegFocusCheck, .spuriousRegEoiBcastSuppress] : List Field)
    ++ ([.bitmask32RegBits] : List Field)
    ++ ([.errorStatusRegSendChecksum, .errorStatusRegRecvChecksum, .errorStatusRegSendAccept, .errorStatusRegRecvAccept, .errorStatusRegRedirectableIpi, .errorStatusRegSendIllegalVector, .errorStatusRegRecvIllegalVector, .errorStatusRegIllegalRegAddr] : List Field)
    ++ ([.icrLowRegVector, .icrLowRegDeliveryMode, .icrLowRegDestMode, .icrLowRegDeliveryStatus, .icrLowRegLevel, .icrLowRegTriggerMode, .icrLowRegShorthand] : List Field)
    ++ ([.icrHighRegDestination] : List Field)
    ++ ([.lvtTimerRegVector, .lvtTimerRegDeliveryStatus, .lvtTimerRegMask, .lvtTimerRegTimerMode] : List Field)
    ++ ([.lvtThermalRegVector, .lvtThermalRegDeliveryMode, .lvtThermalRegDeliveryStatus, .lvtThermalRegMask] : List Field)
    ++ ([.lvtPerfRegVector, .lvtPerfRegDeliveryMode, .lvtPerfRegDeliveryStatus, .lvtPerfRegMask] : List Field)
    ++ ([.lvtLintRegVector, .lvtLintRegDeliveryMode, .lvtLintRegDeliveryStatus, .lvtLintRegPolarity, .lvtLintRegRemoteIrr, .lvtLintRegTriggerMode, .lvtLintRegMask] : List Field)
    ++ ([.lvtErrorRegVector, .lvtErrorRegDeliveryStatus, .lvtErrorRegMask] : List Field)
    ++ ([.timerCountRegCount] : List Field)
    ++ ([.timerDivideRegDivLo, .timerDivideRegDivHi] : List Field)

/-- A field's number in `Field.all`. -/
def Field.code : Field → Nat
  | .idRegId => 0
  | .versionRegVersion => 1
  | .versionRegMaxLvtEntry => 2
  | .priorityRegSubclass => 3
  | .priorityRegClass => 4
  | .eoiRegValue => 5
  | .logicalDestRegLogicalId => 6
  | .destFormatRegModel => 7
  | .spuriousRegVector => 8
  | .spuriousRegEnable => 9
  | .spuriousRegFocusCheck => 10
  | .spuriousRegEoiBcastSuppress => 11
  | .bitmask32RegBits => 12
  | .errorStatusRegSendChecksum => 13
  | .errorStatusRegRecvChecksum => 14
  | .errorStatusRegSendAccept => 15
  | .errorStatusRegRecvAccept => 16
  | .errorStatusRegRedirectableIpi => 17
  | .errorStatusRegSendIllegalVector => 18
  | .errorStatusRegRecvIllegalVector => 19
  | .errorStatusRegIllegalRegAddr => 20
  | .icrLowRegVector => 21
  | .icrLowRegDeliveryMode => 22
  | .icrLowRegDestMode => 23
  | .icrLowRegDeliveryStatus => 24
  | .icrLowRegLevel => 25
  | .icrLowRegTriggerMode => 26
  | .icrLowRegShorthand => 27
  | .icrHighRegDestination => 28
  | .lvtTimerRegVector => 29
  | .lvtTimerRegDeliveryStatus => 30
  | .lvtTimerRegMask => 31
  | .lvtTimerRegTimerMode => 32
  | .lvtThermalRegVector => 33
  | .lvtThermalRegDeliveryMode => 34
  | .lvtThermalRegDeliveryStatus => 35
  | .lvtThermalRegMask => 36
  | .lvtPerfRegVector => 37
  | .lvtPerfRegDeliveryMode => 38
  | .lvtPerfRegDeliveryStatus => 39
  | .lvtPerfRegMask => 40
  | .lvtLintRegVector => 41
  | .lvtLintRegDeliveryMode => 42
  | .lvtLintRegDeliveryStatus => 43
  | .lvtLintRegPolarity => 44
  | .lvtLintRegRemoteIrr => 45
  | .lvtLintRegTriggerMode => 46
  | .lvtLintRegMask => 47
  | .lvtErrorRegVector => 48
  | .lvtErrorRegDeliveryStatus => 49
  | .lvtErrorRegMask => 50
  | .timerCountRegCount => 51
  | .timerDivideRegDivLo => 52
  | .timerDivideRegDivHi => 53

/-- The register types by number (10_state.md R20's order). -/
def RegType.all : List RegType :=
  [.idReg, .versionReg, .priorityReg, .eoiReg, .logicalDestReg, .destFormatReg, .spuriousReg, .bitmask32Reg, .errorStatusReg,
   .icrLowReg, .icrHighReg, .lvtTimerReg, .lvtThermalReg, .lvtPerfReg, .lvtLintReg, .lvtErrorReg, .timerCountReg, .timerDivideReg]

/-- A register type's number in `RegType.all`. -/
def RegType.code : RegType → Nat
  | .idReg => 0
  | .versionReg => 1
  | .priorityReg => 2
  | .eoiReg => 3
  | .logicalDestReg => 4
  | .destFormatReg => 5
  | .spuriousReg => 6
  | .bitmask32Reg => 7
  | .errorStatusReg => 8
  | .icrLowReg => 9
  | .icrHighReg => 10
  | .lvtTimerReg => 11
  | .lvtThermalReg => 12
  | .lvtPerfReg => 13
  | .lvtLintReg => 14
  | .lvtErrorReg => 15
  | .timerCountReg => 16
  | .timerDivideReg => 17

/-- The getter row of a field. -/
def Field.getInstr (x : Slot) : Field → Instr
  | .idRegId => .getIdRegId x
  | .versionRegVersion => .getVersionRegVersion x
  | .versionRegMaxLvtEntry => .getVersionRegMaxLvtEntry x
  | .priorityRegSubclass => .getPriorityRegSubclass x
  | .priorityRegClass => .getPriorityRegClass x
  | .eoiRegValue => .getEoiRegValue x
  | .logicalDestRegLogicalId => .getLogicalDestRegLogicalId x
  | .destFormatRegModel => .getDestFormatRegModel x
  | .spuriousRegVector => .getSpuriousRegVector x
  | .spuriousRegEnable => .getSpuriousRegEnable x
  | .spuriousRegFocusCheck => .getSpuriousRegFocusCheck x
  | .spuriousRegEoiBcastSuppress => .getSpuriousRegEoiBcastSuppress x
  | .bitmask32RegBits => .getBitmask32RegBits x
  | .errorStatusRegSendChecksum => .getErrorStatusRegSendChecksum x
  | .errorStatusRegRecvChecksum => .getErrorStatusRegRecvChecksum x
  | .errorStatusRegSendAccept => .getErrorStatusRegSendAccept x
  | .errorStatusRegRecvAccept => .getErrorStatusRegRecvAccept x
  | .errorStatusRegRedirectableIpi => .getErrorStatusRegRedirectableIpi x
  | .errorStatusRegSendIllegalVector => .getErrorStatusRegSendIllegalVector x
  | .errorStatusRegRecvIllegalVector => .getErrorStatusRegRecvIllegalVector x
  | .errorStatusRegIllegalRegAddr => .getErrorStatusRegIllegalRegAddr x
  | .icrLowRegVector => .getIcrLowRegVector x
  | .icrLowRegDeliveryMode => .getIcrLowRegDeliveryMode x
  | .icrLowRegDestMode => .getIcrLowRegDestMode x
  | .icrLowRegDeliveryStatus => .getIcrLowRegDeliveryStatus x
  | .icrLowRegLevel => .getIcrLowRegLevel x
  | .icrLowRegTriggerMode => .getIcrLowRegTriggerMode x
  | .icrLowRegShorthand => .getIcrLowRegShorthand x
  | .icrHighRegDestination => .getIcrHighRegDestination x
  | .lvtTimerRegVector => .getLvtTimerRegVector x
  | .lvtTimerRegDeliveryStatus => .getLvtTimerRegDeliveryStatus x
  | .lvtTimerRegMask => .getLvtTimerRegMask x
  | .lvtTimerRegTimerMode => .getLvtTimerRegTimerMode x
  | .lvtThermalRegVector => .getLvtThermalRegVector x
  | .lvtThermalRegDeliveryMode => .getLvtThermalRegDeliveryMode x
  | .lvtThermalRegDeliveryStatus => .getLvtThermalRegDeliveryStatus x
  | .lvtThermalRegMask => .getLvtThermalRegMask x
  | .lvtPerfRegVector => .getLvtPerfRegVector x
  | .lvtPerfRegDeliveryMode => .getLvtPerfRegDeliveryMode x
  | .lvtPerfRegDeliveryStatus => .getLvtPerfRegDeliveryStatus x
  | .lvtPerfRegMask => .getLvtPerfRegMask x
  | .lvtLintRegVector => .getLvtLintRegVector x
  | .lvtLintRegDeliveryMode => .getLvtLintRegDeliveryMode x
  | .lvtLintRegDeliveryStatus => .getLvtLintRegDeliveryStatus x
  | .lvtLintRegPolarity => .getLvtLintRegPolarity x
  | .lvtLintRegRemoteIrr => .getLvtLintRegRemoteIrr x
  | .lvtLintRegTriggerMode => .getLvtLintRegTriggerMode x
  | .lvtLintRegMask => .getLvtLintRegMask x
  | .lvtErrorRegVector => .getLvtErrorRegVector x
  | .lvtErrorRegDeliveryStatus => .getLvtErrorRegDeliveryStatus x
  | .lvtErrorRegMask => .getLvtErrorRegMask x
  | .timerCountRegCount => .getTimerCountRegCount x
  | .timerDivideRegDivLo => .getTimerDivideRegDivLo x
  | .timerDivideRegDivHi => .getTimerDivideRegDivHi x

/-- The setter row of a field. -/
def Field.withInstr (x : Slot) (v : RegWord) : Field → Instr
  | .idRegId => .withIdRegId x v
  | .versionRegVersion => .withVersionRegVersion x v
  | .versionRegMaxLvtEntry => .withVersionRegMaxLvtEntry x v
  | .priorityRegSubclass => .withPriorityRegSubclass x v
  | .priorityRegClass => .withPriorityRegClass x v
  | .eoiRegValue => .withEoiRegValue x v
  | .logicalDestRegLogicalId => .withLogicalDestRegLogicalId x v
  | .destFormatRegModel => .withDestFormatRegModel x v
  | .spuriousRegVector => .withSpuriousRegVector x v
  | .spuriousRegEnable => .withSpuriousRegEnable x v
  | .spuriousRegFocusCheck => .withSpuriousRegFocusCheck x v
  | .spuriousRegEoiBcastSuppress => .withSpuriousRegEoiBcastSuppress x v
  | .bitmask32RegBits => .withBitmask32RegBits x v
  | .errorStatusRegSendChecksum => .withErrorStatusRegSendChecksum x v
  | .errorStatusRegRecvChecksum => .withErrorStatusRegRecvChecksum x v
  | .errorStatusRegSendAccept => .withErrorStatusRegSendAccept x v
  | .errorStatusRegRecvAccept => .withErrorStatusRegRecvAccept x v
  | .errorStatusRegRedirectableIpi => .withErrorStatusRegRedirectableIpi x v
  | .errorStatusRegSendIllegalVector => .withErrorStatusRegSendIllegalVector x v
  | .errorStatusRegRecvIllegalVector => .withErrorStatusRegRecvIllegalVector x v
  | .errorStatusRegIllegalRegAddr => .withErrorStatusRegIllegalRegAddr x v
  | .icrLowRegVector => .withIcrLowRegVector x v
  | .icrLowRegDeliveryMode => .withIcrLowRegDeliveryMode x v
  | .icrLowRegDestMode => .withIcrLowRegDestMode x v
  | .icrLowRegDeliveryStatus => .withIcrLowRegDeliveryStatus x v
  | .icrLowRegLevel => .withIcrLowRegLevel x v
  | .icrLowRegTriggerMode => .withIcrLowRegTriggerMode x v
  | .icrLowRegShorthand => .withIcrLowRegShorthand x v
  | .icrHighRegDestination => .withIcrHighRegDestination x v
  | .lvtTimerRegVector => .withLvtTimerRegVector x v
  | .lvtTimerRegDeliveryStatus => .withLvtTimerRegDeliveryStatus x v
  | .lvtTimerRegMask => .withLvtTimerRegMask x v
  | .lvtTimerRegTimerMode => .withLvtTimerRegTimerMode x v
  | .lvtThermalRegVector => .withLvtThermalRegVector x v
  | .lvtThermalRegDeliveryMode => .withLvtThermalRegDeliveryMode x v
  | .lvtThermalRegDeliveryStatus => .withLvtThermalRegDeliveryStatus x v
  | .lvtThermalRegMask => .withLvtThermalRegMask x v
  | .lvtPerfRegVector => .withLvtPerfRegVector x v
  | .lvtPerfRegDeliveryMode => .withLvtPerfRegDeliveryMode x v
  | .lvtPerfRegDeliveryStatus => .withLvtPerfRegDeliveryStatus x v
  | .lvtPerfRegMask => .withLvtPerfRegMask x v
  | .lvtLintRegVector => .withLvtLintRegVector x v
  | .lvtLintRegDeliveryMode => .withLvtLintRegDeliveryMode x v
  | .lvtLintRegDeliveryStatus => .withLvtLintRegDeliveryStatus x v
  | .lvtLintRegPolarity => .withLvtLintRegPolarity x v
  | .lvtLintRegRemoteIrr => .withLvtLintRegRemoteIrr x v
  | .lvtLintRegTriggerMode => .withLvtLintRegTriggerMode x v
  | .lvtLintRegMask => .withLvtLintRegMask x v
  | .lvtErrorRegVector => .withLvtErrorRegVector x v
  | .lvtErrorRegDeliveryStatus => .withLvtErrorRegDeliveryStatus x v
  | .lvtErrorRegMask => .withLvtErrorRegMask x v
  | .timerCountRegCount => .withTimerCountRegCount x v
  | .timerDivideRegDivLo => .withTimerDivideRegDivLo x v
  | .timerDivideRegDivHi => .withTimerDivideRegDivHi x v

/-- One row of the operation map: an offset `a` belongs to it when `a & mask = pat` (30_encoding.md R59). -/
structure MapRow where
  pat : BitVec 10
  mask : BitVec 10
  instr : BitVec 10 → Access → Instr

/-- Whether offset `a` belongs to a row (R59). -/
def MapRow.holds (r : MapRow) (a : BitVec 10) : Bool := a &&& r.mask == r.pat

/-- The operation map, row by row as the table has it (30_encoding.md R59; 10_state.md R18, R19). -/
def operationMap : List MapRow :=
  ([⟨0x020, 0x3F0, fun a t => .accId (a.setWidth 4) t⟩,
     ⟨0x030, 0x3F0, fun a t => .accVer (a.setWidth 4) t⟩,
     ⟨0x080, 0x3F0, fun a t => .accTpr (a.setWidth 4) t⟩,
     ⟨0x090, 0x3F0, fun a t => .accApr (a.setWidth 4) t⟩,
     ⟨0x0A0, 0x3F0, fun a t => .accPpr (a.setWidth 4) t⟩,
     ⟨0x0B0, 0x3F0, fun a t => .accEoi (a.setWidth 4) t⟩,
     ⟨0x0D0, 0x3F0, fun a t => .accLdr (a.setWidth 4) t⟩,
     ⟨0x0E0, 0x3F0, fun a t => .accDfr (a.setWidth 4) t⟩,
     ⟨0x0F0, 0x3F0, fun a t => .accSvr (a.setWidth 4) t⟩,
     ⟨0x100, 0x380, fun a t => .accIsr (a.extractLsb' 4 3) (a.setWidth 4) t⟩,
     ⟨0x180, 0x380, fun a t => .accTmr (a.extractLsb' 4 3) (a.setWidth 4) t⟩] : List MapRow)
    ++ ([⟨0x200, 0x380, fun a t => .accIrr (a.extractLsb' 4 3) (a.setWidth 4) t⟩,
     ⟨0x280, 0x3F0, fun a t => .accEsr (a.setWidth 4) t⟩,
     ⟨0x300, 0x3F0, fun a t => .accIcrl (a.setWidth 4) t⟩,
     ⟨0x310, 0x3F0, fun a t => .accIcrh (a.setWidth 4) t⟩,
     ⟨0x320, 0x3F0, fun a t => .accLvtt (a.setWidth 4) t⟩,
     ⟨0x330, 0x3F0, fun a t => .accLvtth (a.setWidth 4) t⟩,
     ⟨0x340, 0x3F0, fun a t => .accLvtpc (a.setWidth 4) t⟩,
     ⟨0x350, 0x3F0, fun a t => .accLvtl0 (a.setWidth 4) t⟩,
     ⟨0x360, 0x3F0, fun a t => .accLvtl1 (a.setWidth 4) t⟩,
     ⟨0x370, 0x3F0, fun a t => .accLvterr (a.setWidth 4) t⟩,
     ⟨0x380, 0x3F0, fun a t => .accTicr (a.setWidth 4) t⟩] : List MapRow)
    ++ ([⟨0x390, 0x3F0, fun a t => .accTccr (a.setWidth 4) t⟩,
     ⟨0x3E0, 0x3F0, fun a t => .accTdcr (a.setWidth 4) t⟩,
     ⟨0x000, 0x3E0, fun a t => .accRsv0 (a.setWidth 5) t⟩,
     ⟨0x040, 0x3C0, fun a t => .accRsv1 (a.setWidth 6) t⟩,
     ⟨0x0C0, 0x3F0, fun a t => .accRsv2 (a.setWidth 4) t⟩,
     ⟨0x290, 0x3F0, fun a t => .accRsv3Slot41 (a.setWidth 4) t⟩,
     ⟨0x2A0, 0x3E0, fun a t => .accRsv3Slots42To43 (a.setWidth 5) t⟩,
     ⟨0x2C0, 0x3C0, fun a t => .accRsv3Slots44To47 (a.setWidth 6) t⟩,
     ⟨0x3A0, 0x3E0, fun a t => .accRsv4Slots58To59 (a.setWidth 5) t⟩,
     ⟨0x3C0, 0x3E0, fun a t => .accRsv4Slots60To61 (a.setWidth 5) t⟩,
     ⟨0x3F0, 0x3F0, fun a t => .accRsv5 (a.setWidth 4) t⟩] : List MapRow)

/-- The operation a transaction at offset `a` is: the first row of the map that holds `a` (R52, R59). -/
def blockInstr (a : BitVec 10) (t : Access) : Option Instr :=
  (operationMap.find? fun r => r.holds a).map fun r => r.instr a t

/-- The first `n` bytes and the rest, none if there are fewer. -/
def takeBytes : Nat → List Byte → Option (List Byte × List Byte)
  | 0, bs => some ([], bs)
  | _ + 1, [] => none
  | n + 1, b :: bs => (takeBytes n bs).map fun p => (b :: p.1, p.2)

/-- A little-endian value of `n` bytes and the rest. -/
def takeVal (w n : Nat) (bs : List Byte) : Option (BitVec w × List Byte) :=
  (takeBytes n bs).map fun p => (Machine.ofBytes w p.1, p.2)

/-- A field number word. -/
def decodeField (bs : List Byte) (k : Field → List Byte → Decoded) : Decoded :=
  match takeVal 16 2 bs with
  | none => .bad .truncated
  | some (c, rest) =>
    match Field.all[c.toNat]? with
    | none => .bad .unassignedField
    | some f => k f rest

/-- An entry, named by its slot index. -/
def decodeEntry (bs : List Byte) (k : Entry → List Byte → Decoded) : Decoded :=
  match takeVal 16 2 bs with
  | none => .bad .truncated
  | some (c, rest) =>
    match Entry.ofSlot c.toNat with
    | none => .bad .slotNamesNoEntry
    | some e => k e rest

/-- A slot value operand. -/
def decodeSlot (bs : List Byte) (k : Slot → List Byte → Decoded) : Decoded :=
  match takeVal 128 16 bs with
  | none => .bad .truncated
  | some (x, rest) => k x rest

/-- A 32-bit operand. -/
def decodeWord32 (bs : List Byte) (k : RegWord → List Byte → Decoded) : Decoded :=
  match takeVal 32 4 bs with
  | none => .bad .truncated
  | some (v, rest) => k v rest

/-- The operand of a setter of field `f`: a literal that does not fit is refused here (30_encoding.md R56). -/
def decodeOperand (f : Field) (bs : List Byte) (k : RegWord → List Byte → Decoded) : Decoded :=
  decodeWord32 bs fun v rest => if f.fits v then k v rest else .bad .literalTooWide

/-- An offset or a byte count: 11 used bits of a word. -/
def decodeCount (bs : List Byte) (k : BitVec 11 → List Byte → Decoded) : Decoded :=
  match takeVal 16 2 bs with
  | none => .bad .truncated
  | some (c, rest) => if c >>> 11 = 0#16 then k (c.setWidth 11) rest else .bad .unusedOperandBits

/-- A byte string of known length. -/
def decodeBytes (n : Nat) (bs : List Byte) (k : List Byte → List Byte → Decoded) : Decoded :=
  match takeBytes n bs with
  | none => .bad .truncated
  | some (d, rest) => k d rest

/-- A transaction at offset `a` (class 0). -/
def decodeTxn (a : BitVec 10) (bs : List Byte) : Decoded :=
  match takeVal 16 2 bs with
  | none => .bad .truncated
  | some (c, rest) =>
    if c >>> 11 = 0#16 then
      if c.getLsbD 10 then
        decodeBytes ((c.setWidth 10).toNat + 1) rest fun d rest =>
          match blockInstr a (.write d) with
          | none => .bad .unmappedOffset
          | some i => .ok i rest
      else
        match blockInstr a (.read ((c.setWidth 10).toNat + 1)) with
        | none => .bad .unmappedOffset
        | some i => .ok i rest
    else .bad .unusedOperandBits

/-- A generic operation (class 1), by its place in the table of 30_encoding.md R65. -/
def decodeOp (n : Nat) (bs : List Byte) : Decoded :=
  match n with
  | 0 =>
    match takeVal 16 2 bs with
    | none => .bad .truncated
    | some (c, rest) =>
      match RegType.all[c.toNat]? with
      | none => .bad .unassignedType
      | some t => .ok (.opDefault t) rest
  | 1 => decodeField bs fun f bs => decodeSlot bs fun x bs => .ok (.opGet f x) bs
  | 2 => decodeField bs fun f bs => decodeSlot bs fun x bs => decodeOperand f bs fun v bs => .ok (.opWith f x v) bs
  | 3 => decodeField bs fun f bs => decodeOperand f bs fun v bs => .ok (.opSet f v) bs
  | 4 => decodeSlot bs fun x bs => .ok (.toBytes x) bs
  | 5 => decodeBytes 16 bs fun b bs => .ok (.fromBytes b) bs
  | 6 => decodeSlot bs fun x bs => decodeSlot bs fun y bs => .ok (.opEq x y) bs
  | 7 => .ok .rfDefault bs
  | 8 => .ok .rfToBytes bs
  | 9 => decodeBytes 1024 bs fun b bs => .ok (.rfFromBytes b) bs
  | 10 => decodeCount bs fun a bs => decodeCount bs fun n bs => .ok (.rd a n) bs
  | 11 => decodeCount bs fun a bs => decodeCount bs fun n bs => decodeBytes n.toNat bs fun d bs => .ok (.wr a d) bs
  | 12 => decodeEntry bs fun e bs => .ok (.rds e) bs
  | 13 => decodeEntry bs fun e bs => decodeSlot bs fun v bs => .ok (.wrs e v) bs
  | 14 => decodeEntry bs fun e bs => .ok (.rdw e) bs
  | 15 => decodeEntry bs fun e bs => decodeWord32 bs fun v bs => .ok (.wrw e v) bs
  | 16 => decodeEntry bs fun e bs => decodeField bs fun f bs =>
      if f.isOf e then .ok (.getf e f) bs else .bad .fieldOfAnotherType
  | 17 => decodeEntry bs fun e bs => decodeField bs fun f bs =>
      if f.isOf e then decodeOperand f bs fun v bs => .ok (.setf e f v) bs else .bad .fieldOfAnotherType
  | _ => .bad .unassignedOperation

/-- Decoding: total on any bytes, the operation and the bytes after it, or a named reason. -/
def decode (bs : List Byte) : Decoded :=
  match takeVal 16 2 bs with
  | none => .bad .truncated
  | some (h, rest) =>
    match (h >>> 10).toNat with
    | 0 => decodeTxn (h.setWidth 10) rest
    | 1 => decodeOp (h.setWidth 10).toNat rest
    | 2 =>
      match Field.all[(h.setWidth 10).toNat]? with
      | none => .bad .unassignedField
      | some f => decodeSlot rest fun x rest => .ok (f.getInstr x) rest
    | 3 =>
      match Field.all[(h.setWidth 10).toNat]? with
      | none => .bad .unassignedField
      | some f => decodeSlot rest fun x rest => decodeOperand f rest fun v rest => .ok (f.withInstr x v) rest
    | _ => .bad .unassignedClass

/-- A 16-bit word's two bytes, the low one first. -/
def encWord (n : Nat) : List Byte := Machine.bytesOf 2 (BitVec.ofNat 16 n)

/-- The head word: class and payload. -/
def encHead (cls payload : Nat) : List Byte := encWord (cls * 1024 + payload)

/-- A transaction record at offset `a`. -/
def encTxn (a : BitVec 10) : Access → List Byte
  | .read n => encHead 0 a.toNat ++ encWord (n - 1)
  | .write d => encHead 0 a.toNat ++ encWord (1024 + (d.length - 1)) ++ d

/-- A getter row. -/
def encGet (f : Field) (x : Slot) : List Byte := encHead 2 f.code ++ Machine.slotBytes x

/-- A setter row. -/
def encWith (f : Field) (x : Slot) (v : RegWord) : List Byte :=
  encHead 3 f.code ++ Machine.slotBytes x ++ Machine.wordBytes v

/-- The bytes of an operation. -/
def encode : Instr → List Byte
  | .opDefault t => encHead 1 0 ++ encWord t.code
  | .opGet f x => encHead 1 1 ++ encWord f.code ++ Machine.slotBytes x
  | .opWith f x v => encHead 1 2 ++ encWord f.code ++ Machine.slotBytes x ++ Machine.wordBytes v
  | .opSet f v => encHead 1 3 ++ encWord f.code ++ Machine.wordBytes v
  | .toBytes x => encHead 1 4 ++ Machine.slotBytes x
  | .fromBytes b => encHead 1 5 ++ b
  | .opEq x y => encHead 1 6 ++ Machine.slotBytes x ++ Machine.slotBytes y
  | .rfDefault => encHead 1 7
  | .rfToBytes => encHead 1 8
  | .rfFromBytes b => encHead 1 9 ++ b
  | .rd a n => encHead 1 10 ++ encWord a.toNat ++ encWord n.toNat
  | .wr a d => encHead 1 11 ++ encWord a.toNat ++ encWord d.length ++ d
  | .rds e => encHead 1 12 ++ encWord e.slot
  | .wrs e v => encHead 1 13 ++ encWord e.slot ++ Machine.slotBytes v
  | .rdw e => encHead 1 14 ++ encWord e.slot
  | .wrw e v => encHead 1 15 ++ encWord e.slot ++ Machine.wordBytes v
  | .getf e f => encHead 1 16 ++ encWord e.slot ++ encWord f.code
  | .setf e f v => encHead 1 17 ++ encWord e.slot ++ encWord f.code ++ Machine.wordBytes v
  | .accId byte t => encTxn (0x020 ||| byte.setWidth 10) t
  | .accVer byte t => encTxn (0x030 ||| byte.setWidth 10) t
  | .accTpr byte t => encTxn (0x080 ||| byte.setWidth 10) t
  | .accApr byte t => encTxn (0x090 ||| byte.setWidth 10) t
  | .accPpr byte t => encTxn (0x0A0 ||| byte.setWidth 10) t
  | .accEoi byte t => encTxn (0x0B0 ||| byte.setWidth 10) t
  | .accLdr byte t => encTxn (0x0D0 ||| byte.setWidth 10) t
  | .accDfr byte t => encTxn (0x0E0 ||| byte.setWidth 10) t
  | .accSvr byte t => encTxn (0x0F0 ||| byte.setWidth 10) t
  | .accIsr k byte t => encTxn (0x100 ||| (k.setWidth 10 <<< 4) ||| byte.setWidth 10) t
  | .accTmr k byte t => encTxn (0x180 ||| (k.setWidth 10 <<< 4) ||| byte.setWidth 10) t
  | .accIrr k byte t => encTxn (0x200 ||| (k.setWidth 10 <<< 4) ||| byte.setWidth 10) t
  | .accEsr byte t => encTxn (0x280 ||| byte.setWidth 10) t
  | .accIcrl byte t => encTxn (0x300 ||| byte.setWidth 10) t
  | .accIcrh byte t => encTxn (0x310 ||| byte.setWidth 10) t
  | .accLvtt byte t => encTxn (0x320 ||| byte.setWidth 10) t
  | .accLvtth byte t => encTxn (0x330 ||| byte.setWidth 10) t
  | .accLvtpc byte t => encTxn (0x340 ||| byte.setWidth 10) t
  | .accLvtl0 byte t => encTxn (0x350 ||| byte.setWidth 10) t
  | .accLvtl1 byte t => encTxn (0x360 ||| byte.setWidth 10) t
  | .accLvterr byte t => encTxn (0x370 ||| byte.setWidth 10) t
  | .accTicr byte t => encTxn (0x380 ||| byte.setWidth 10) t
  | .accTccr byte t => encTxn (0x390 ||| byte.setWidth 10) t
  | .accTdcr byte t => encTxn (0x3E0 ||| byte.setWidth 10) t
  | .accRsv0 off t => encTxn (0x000 ||| off.setWidth 10) t
  | .accRsv1 off t => encTxn (0x040 ||| off.setWidth 10) t
  | .accRsv2 off t => encTxn (0x0C0 ||| off.setWidth 10) t
  | .accRsv3Slot41 off t => encTxn (0x290 ||| off.setWidth 10) t
  | .accRsv3Slots42To43 off t => encTxn (0x2A0 ||| off.setWidth 10) t
  | .accRsv3Slots44To47 off t => encTxn (0x2C0 ||| off.setWidth 10) t
  | .accRsv4Slots58To59 off t => encTxn (0x3A0 ||| off.setWidth 10) t
  | .accRsv4Slots60To61 off t => encTxn (0x3C0 ||| off.setWidth 10) t
  | .accRsv5 off t => encTxn (0x3F0 ||| off.setWidth 10) t
  | .getIdRegId x => encGet .idRegId x
  | .withIdRegId x v => encWith .idRegId x v
  | .getVersionRegVersion x => encGet .versionRegVersion x
  | .withVersionRegVersion x v => encWith .versionRegVersion x v
  | .getVersionRegMaxLvtEntry x => encGet .versionRegMaxLvtEntry x
  | .withVersionRegMaxLvtEntry x v => encWith .versionRegMaxLvtEntry x v
  | .getPriorityRegSubclass x => encGet .priorityRegSubclass x
  | .withPriorityRegSubclass x v => encWith .priorityRegSubclass x v
  | .getPriorityRegClass x => encGet .priorityRegClass x
  | .withPriorityRegClass x v => encWith .priorityRegClass x v
  | .getEoiRegValue x => encGet .eoiRegValue x
  | .withEoiRegValue x v => encWith .eoiRegValue x v
  | .getLogicalDestRegLogicalId x => encGet .logicalDestRegLogicalId x
  | .withLogicalDestRegLogicalId x v => encWith .logicalDestRegLogicalId x v
  | .getDestFormatRegModel x => encGet .destFormatRegModel x
  | .withDestFormatRegModel x v => encWith .destFormatRegModel x v
  | .getSpuriousRegVector x => encGet .spuriousRegVector x
  | .withSpuriousRegVector x v => encWith .spuriousRegVector x v
  | .getSpuriousRegEnable x => encGet .spuriousRegEnable x
  | .withSpuriousRegEnable x v => encWith .spuriousRegEnable x v
  | .getSpuriousRegFocusCheck x => encGet .spuriousRegFocusCheck x
  | .withSpuriousRegFocusCheck x v => encWith .spuriousRegFocusCheck x v
  | .getSpuriousRegEoiBcastSuppress x => encGet .spuriousRegEoiBcastSuppress x
  | .withSpuriousRegEoiBcastSuppress x v => encWith .spuriousRegEoiBcastSuppress x v
  | .getBitmask32RegBits x => encGet .bitmask32RegBits x
  | .withBitmask32RegBits x v => encWith .bitmask32RegBits x v
  | .getErrorStatusRegSendChecksum x => encGet .errorStatusRegSendChecksum x
  | .withErrorStatusRegSendChecksum x v => encWith .errorStatusRegSendChecksum x v
  | .getErrorStatusRegRecvChecksum x => encGet .errorStatusRegRecvChecksum x
  | .withErrorStatusRegRecvChecksum x v => encWith .errorStatusRegRecvChecksum x v
  | .getErrorStatusRegSendAccept x => encGet .errorStatusRegSendAccept x
  | .withErrorStatusRegSendAccept x v => encWith .errorStatusRegSendAccept x v
  | .getErrorStatusRegRecvAccept x => encGet .errorStatusRegRecvAccept x
  | .withErrorStatusRegRecvAccept x v => encWith .errorStatusRegRecvAccept x v
  | .getErrorStatusRegRedirectableIpi x => encGet .errorStatusRegRedirectableIpi x
  | .withErrorStatusRegRedirectableIpi x v => encWith .errorStatusRegRedirectableIpi x v
  | .getErrorStatusRegSendIllegalVector x => encGet .errorStatusRegSendIllegalVector x
  | .withErrorStatusRegSendIllegalVector x v => encWith .errorStatusRegSendIllegalVector x v
  | .getErrorStatusRegRecvIllegalVector x => encGet .errorStatusRegRecvIllegalVector x
  | .withErrorStatusRegRecvIllegalVector x v => encWith .errorStatusRegRecvIllegalVector x v
  | .getErrorStatusRegIllegalRegAddr x => encGet .errorStatusRegIllegalRegAddr x
  | .withErrorStatusRegIllegalRegAddr x v => encWith .errorStatusRegIllegalRegAddr x v
  | .getIcrLowRegVector x => encGet .icrLowRegVector x
  | .withIcrLowRegVector x v => encWith .icrLowRegVector x v
  | .getIcrLowRegDeliveryMode x => encGet .icrLowRegDeliveryMode x
  | .withIcrLowRegDeliveryMode x v => encWith .icrLowRegDeliveryMode x v
  | .getIcrLowRegDestMode x => encGet .icrLowRegDestMode x
  | .withIcrLowRegDestMode x v => encWith .icrLowRegDestMode x v
  | .getIcrLowRegDeliveryStatus x => encGet .icrLowRegDeliveryStatus x
  | .withIcrLowRegDeliveryStatus x v => encWith .icrLowRegDeliveryStatus x v
  | .getIcrLowRegLevel x => encGet .icrLowRegLevel x
  | .withIcrLowRegLevel x v => encWith .icrLowRegLevel x v
  | .getIcrLowRegTriggerMode x => encGet .icrLowRegTriggerMode x
  | .withIcrLowRegTriggerMode x v => encWith .icrLowRegTriggerMode x v
  | .getIcrLowRegShorthand x => encGet .icrLowRegShorthand x
  | .withIcrLowRegShorthand x v => encWith .icrLowRegShorthand x v
  | .getIcrHighRegDestination x => encGet .icrHighRegDestination x
  | .withIcrHighRegDestination x v => encWith .icrHighRegDestination x v
  | .getLvtTimerRegVector x => encGet .lvtTimerRegVector x
  | .withLvtTimerRegVector x v => encWith .lvtTimerRegVector x v
  | .getLvtTimerRegDeliveryStatus x => encGet .lvtTimerRegDeliveryStatus x
  | .withLvtTimerRegDeliveryStatus x v => encWith .lvtTimerRegDeliveryStatus x v
  | .getLvtTimerRegMask x => encGet .lvtTimerRegMask x
  | .withLvtTimerRegMask x v => encWith .lvtTimerRegMask x v
  | .getLvtTimerRegTimerMode x => encGet .lvtTimerRegTimerMode x
  | .withLvtTimerRegTimerMode x v => encWith .lvtTimerRegTimerMode x v
  | .getLvtThermalRegVector x => encGet .lvtThermalRegVector x
  | .withLvtThermalRegVector x v => encWith .lvtThermalRegVector x v
  | .getLvtThermalRegDeliveryMode x => encGet .lvtThermalRegDeliveryMode x
  | .withLvtThermalRegDeliveryMode x v => encWith .lvtThermalRegDeliveryMode x v
  | .getLvtThermalRegDeliveryStatus x => encGet .lvtThermalRegDeliveryStatus x
  | .withLvtThermalRegDeliveryStatus x v => encWith .lvtThermalRegDeliveryStatus x v
  | .getLvtThermalRegMask x => encGet .lvtThermalRegMask x
  | .withLvtThermalRegMask x v => encWith .lvtThermalRegMask x v
  | .getLvtPerfRegVector x => encGet .lvtPerfRegVector x
  | .withLvtPerfRegVector x v => encWith .lvtPerfRegVector x v
  | .getLvtPerfRegDeliveryMode x => encGet .lvtPerfRegDeliveryMode x
  | .withLvtPerfRegDeliveryMode x v => encWith .lvtPerfRegDeliveryMode x v
  | .getLvtPerfRegDeliveryStatus x => encGet .lvtPerfRegDeliveryStatus x
  | .withLvtPerfRegDeliveryStatus x v => encWith .lvtPerfRegDeliveryStatus x v
  | .getLvtPerfRegMask x => encGet .lvtPerfRegMask x
  | .withLvtPerfRegMask x v => encWith .lvtPerfRegMask x v
  | .getLvtLintRegVector x => encGet .lvtLintRegVector x
  | .withLvtLintRegVector x v => encWith .lvtLintRegVector x v
  | .getLvtLintRegDeliveryMode x => encGet .lvtLintRegDeliveryMode x
  | .withLvtLintRegDeliveryMode x v => encWith .lvtLintRegDeliveryMode x v
  | .getLvtLintRegDeliveryStatus x => encGet .lvtLintRegDeliveryStatus x
  | .withLvtLintRegDeliveryStatus x v => encWith .lvtLintRegDeliveryStatus x v
  | .getLvtLintRegPolarity x => encGet .lvtLintRegPolarity x
  | .withLvtLintRegPolarity x v => encWith .lvtLintRegPolarity x v
  | .getLvtLintRegRemoteIrr x => encGet .lvtLintRegRemoteIrr x
  | .withLvtLintRegRemoteIrr x v => encWith .lvtLintRegRemoteIrr x v
  | .getLvtLintRegTriggerMode x => encGet .lvtLintRegTriggerMode x
  | .withLvtLintRegTriggerMode x v => encWith .lvtLintRegTriggerMode x v
  | .getLvtLintRegMask x => encGet .lvtLintRegMask x
  | .withLvtLintRegMask x v => encWith .lvtLintRegMask x v
  | .getLvtErrorRegVector x => encGet .lvtErrorRegVector x
  | .withLvtErrorRegVector x v => encWith .lvtErrorRegVector x v
  | .getLvtErrorRegDeliveryStatus x => encGet .lvtErrorRegDeliveryStatus x
  | .withLvtErrorRegDeliveryStatus x v => encWith .lvtErrorRegDeliveryStatus x v
  | .getLvtErrorRegMask x => encGet .lvtErrorRegMask x
  | .withLvtErrorRegMask x v => encWith .lvtErrorRegMask x v
  | .getTimerCountRegCount x => encGet .timerCountRegCount x
  | .withTimerCountRegCount x v => encWith .timerCountRegCount x v
  | .getTimerDivideRegDivLo x => encGet .timerDivideRegDivLo x
  | .withTimerDivideRegDivLo x v => encWith .timerDivideRegDivLo x v
  | .getTimerDivideRegDivHi x => encGet .timerDivideRegDivHi x
  | .withTimerDivideRegDivHi x v => encWith .timerDivideRegDivHi x v

/-- The most bytes an operation has: head, offset, count and 2047 data bytes of a `WR`. -/
def maxInstrBytes : Nat := 2053

/-- The bytes of an instruction whose bits are `w`: `nbits` of them in whole bytes, the lowest first, and zeros up to
the longest instruction. -/
def wordStream (nbits w : Nat) : List Byte :=
  Machine.bytesOf ((nbits + 7) / 8) (BitVec.ofNat (8 * ((nbits + 7) / 8)) w)
    ++ List.replicate (maxInstrBytes - (nbits + 7) / 8) 0#8

/-- The instruction the decoder reads from an instruction whose bits are `w` (bit 0 the least significant of the first
word), every bit above `nbits` zero. -/
def decodeTableWord (nbits w : Nat) : Option Instr :=
  match decode (wordStream nbits w) with
  | .ok i _ => some i
  | .bad _ => none

end Sys2Proof
end

