-- ==== Sys2Proof/Machine/Fetch.lean ====
section
/-! DEFINITION. Taking the next operation from the host's port. The block itself fetches nothing (20_memory.md R33): the
port is where the host's operations arrive, in the order it issues them (R44; log 2). -/

namespace Sys2Proof.Machine

/-- The next operation at the port; none when the host has issued none. -/
def fetch (s : State) : Option Decoded :=
  match s.port with
  | [] => none
  | b :: bs => some (decode (b :: bs))

/-- The state once the port has moved past an operation. -/
def State.advance (s : State) (rest : List Byte) : State := { s with port := rest }

end Sys2Proof.Machine
end

