-- ==== Sys2Proof/Machine/Step.lean ====
section
/-! DEFINITION. One step: the next operation at the port is decoded and performed, whole (20_memory.md R38, R44). With nothing at
the port the block does nothing: it has no internal agent (92_eei_decisions.md D1). -/

namespace Sys2Proof.Machine

def step (s : State) : Host.Outcome State Fault Refusal :=
  match fetch s with
  | none => .next s
  | some (.bad why) => .refused (.undecodable why)
  | some (.ok i rest) => exec i (s.advance rest)

/-- `s` with the instruction whose bits are `w` at the head of the port: as many bytes of the word and the zeros above it
as the instruction has (all of them where they are no instruction). -/
def State.withFetchWord (s : State) (nbits w : Nat) : State :=
  match decode (wordStream nbits w) with
  | .ok i _ => { s with port := (wordStream nbits w).take (encode i).length ++ s.port }
  | .bad _ => { s with port := wordStream nbits w ++ s.port }

end Sys2Proof.Machine
end

