-- ==== Sys2Proof/Machine/Launch.lean ====
section
/-! DEFINITION. The launch: what the collaborator that maps the block must provide (70_reset_and_hazards.md R223). -/

namespace Sys2Proof.Machine

/-- A mapping: the base address and how many bytes are mapped from it. -/
structure Mapping where
  base : Nat
  extent : Nat
  deriving DecidableEq, Repr

/-- A launch over at least 1024 bytes from an aligned base starts from the reset state (R220); any other is refused,
never given a value (20_memory.md R34, 60_exceptions.md R203). DESIGN CHOICE (log 8), safe: the base of the mapping is checked
and not kept, and it is tied in no way to `Config.base`, the `BASE` of `Config.absAddr`; the state after a launch does
not depend on it. -/
def launch (m : Mapping) : Host.Outcome State Fault Refusal :=
  if m.extent < Config.rfBytes then .refused (.mappingTooShort m.extent)
  else if m.base % Config.rfAlign ≠ 0 then .refused (.baseMisaligned m.base)
  else .next State.reset

end Sys2Proof.Machine
end

