-- ==== Sys2Proof/Machine/Transactions.lean ====
section
/-! DEFINITION. The transaction records every operation expands to (43_regfile_ops.md R180; 30_encoding.md R58, R66), and what
a record does to the block's bytes. -/

namespace Sys2Proof.Machine

/-- `TXN`: an access at an offset (30_encoding.md R58). -/
structure Txn where
  addr : Nat
  access : Access
  deriving DecidableEq, Repr

/-- What a record does to the block: a read nothing, a write `MemWrite` (R58). -/
def Txn.apply (m : Memory) (t : Txn) : Memory :=
  match t.access with
  | .read _ => m
  | .write d => m.write t.addr d

/-- The records an operation expands to in a state, in order: the table of 43_regfile_ops.md R180. A value-level operation
has none; a row of the operation map is its own record. -/
def transactions (i : Instr) (s : State) : List Txn :=
  match i with
  | .opDefault _ => []
  | .opGet _ _ => []
  | .opWith _ _ _ => []
  | .opSet _ _ => []
  | .toBytes _ => []
  | .fromBytes _ => []
  | .opEq _ _ => []
  | .rfDefault => [⟨0, .write (List.replicate 1024 0x00#8)⟩]
  | .rfToBytes => [⟨0, .read 1024⟩]
  | .rfFromBytes b => [⟨0, .write b⟩]
  | .rd addr n => [⟨addr.toNat, .read n.toNat⟩]
  | .wr addr data => [⟨addr.toNat, .write data⟩]
  | .rds e => [⟨e.offset, .read 16⟩]
  | .wrs e v => [⟨e.offset, .write (slotBytes v)⟩]
  | .rdw e => [⟨e.offset, .read 4⟩]
  | .wrw e v => [⟨e.offset, .write (wordBytes v)⟩]
  | .getf e _ => [⟨e.offset, .read 16⟩]
  | .setf e f v => [⟨e.offset, .read 16⟩, ⟨e.offset, .write (slotBytes (withField f (s.mem.slotAt e.offset) v))⟩]
  | .accId byte t => [⟨0x020 + byte.toNat, t⟩]
  | .accVer byte t => [⟨0x030 + byte.toNat, t⟩]
  | .accTpr byte t => [⟨0x080 + byte.toNat, t⟩]
  | .accApr byte t => [⟨0x090 + byte.toNat, t⟩]
  | .accPpr byte t => [⟨0x0A0 + byte.toNat, t⟩]
  | .accEoi byte t => [⟨0x0B0 + byte.toNat, t⟩]
  | .accLdr byte t => [⟨0x0D0 + byte.toNat, t⟩]
  | .accDfr byte t => [⟨0x0E0 + byte.toNat, t⟩]
  | .accSvr byte t => [⟨0x0F0 + byte.toNat, t⟩]
  | .accIsr k byte t => [⟨0x100 + 16 * k.toNat + byte.toNat, t⟩]
  | .accTmr k byte t => [⟨0x180 + 16 * k.toNat + byte.toNat, t⟩]
  | .accIrr k byte t => [⟨0x200 + 16 * k.toNat + byte.toNat, t⟩]
  | .accEsr byte t => [⟨0x280 + byte.toNat, t⟩]
  | .accIcrl byte t => [⟨0x300 + byte.toNat, t⟩]
  | .accIcrh byte t => [⟨0x310 + byte.toNat, t⟩]
  | .accLvtt byte t => [⟨0x320 + byte.toNat, t⟩]
  | .accLvtth byte t => [⟨0x330 + byte.toNat, t⟩]
  | .accLvtpc byte t => [⟨0x340 + byte.toNat, t⟩]
  | .accLvtl0 byte t => [⟨0x350 + byte.toNat, t⟩]
  | .accLvtl1 byte t => [⟨0x360 + byte.toNat, t⟩]
  | .accLvterr byte t => [⟨0x370 + byte.toNat, t⟩]
  | .accTicr byte t => [⟨0x380 + byte.toNat, t⟩]
  | .accTccr byte t => [⟨0x390 + byte.toNat, t⟩]
  | .accTdcr byte t => [⟨0x3E0 + byte.toNat, t⟩]
  | .accRsv0 off t => [⟨0x000 + off.toNat, t⟩]
  | .accRsv1 off t => [⟨0x040 + off.toNat, t⟩]
  | .accRsv2 off t => [⟨0x0C0 + off.toNat, t⟩]
  | .accRsv3Slot41 off t => [⟨0x290 + off.toNat, t⟩]
  | .accRsv3Slots42To43 off t => [⟨0x2A0 + off.toNat, t⟩]
  | .accRsv3Slots44To47 off t => [⟨0x2C0 + off.toNat, t⟩]
  | .accRsv4Slots58To59 off t => [⟨0x3A0 + off.toNat, t⟩]
  | .accRsv4Slots60To61 off t => [⟨0x3C0 + off.toNat, t⟩]
  | .accRsv5 off t => [⟨0x3F0 + off.toNat, t⟩]
  | .getIdRegId _ => []
  | .withIdRegId _ _ => []
  | .getVersionRegVersion _ => []
  | .withVersionRegVersion _ _ => []
  | .getVersionRegMaxLvtEntry _ => []
  | .withVersionRegMaxLvtEntry _ _ => []
  | .getPriorityRegSubclass _ => []
  | .withPriorityRegSubclass _ _ => []
  | .getPriorityRegClass _ => []
  | .withPriorityRegClass _ _ => []
  | .getEoiRegValue _ => []
  | .withEoiRegValue _ _ => []
  | .getLogicalDestRegLogicalId _ => []
  | .withLogicalDestRegLogicalId _ _ => []
  | .getDestFormatRegModel _ => []
  | .withDestFormatRegModel _ _ => []
  | .getSpuriousRegVector _ => []
  | .withSpuriousRegVector _ _ => []
  | .getSpuriousRegEnable _ => []
  | .withSpuriousRegEnable _ _ => []
  | .getSpuriousRegFocusCheck _ => []
  | .withSpuriousRegFocusCheck _ _ => []
  | .getSpuriousRegEoiBcastSuppress _ => []
  | .withSpuriousRegEoiBcastSuppress _ _ => []
  | .getBitmask32RegBits _ => []
  | .withBitmask32RegBits _ _ => []
  | .getErrorStatusRegSendChecksum _ => []
  | .withErrorStatusRegSendChecksum _ _ => []
  | .getErrorStatusRegRecvChecksum _ => []
  | .withErrorStatusRegRecvChecksum _ _ => []
  | .getErrorStatusRegSendAccept _ => []
  | .withErrorStatusRegSendAccept _ _ => []
  | .getErrorStatusRegRecvAccept _ => []
  | .withErrorStatusRegRecvAccept _ _ => []
  | .getErrorStatusRegRedirectableIpi _ => []
  | .withErrorStatusRegRedirectableIpi _ _ => []
  | .getErrorStatusRegSendIllegalVector _ => []
  | .withErrorStatusRegSendIllegalVector _ _ => []
  | .getErrorStatusRegRecvIllegalVector _ => []
  | .withErrorStatusRegRecvIllegalVector _ _ => []
  | .getErrorStatusRegIllegalRegAddr _ => []
  | .withErrorStatusRegIllegalRegAddr _ _ => []
  | .getIcrLowRegVector _ => []
  | .withIcrLowRegVector _ _ => []
  | .getIcrLowRegDeliveryMode _ => []
  | .withIcrLowRegDeliveryMode _ _ => []
  | .getIcrLowRegDestMode _ => []
  | .withIcrLowRegDestMode _ _ => []
  | .getIcrLowRegDeliveryStatus _ => []
  | .withIcrLowRegDeliveryStatus _ _ => []
  | .getIcrLowRegLevel _ => []
  | .withIcrLowRegLevel _ _ => []
  | .getIcrLowRegTriggerMode _ => []
  | .withIcrLowRegTriggerMode _ _ => []
  | .getIcrLowRegShorthand _ => []
  | .withIcrLowRegShorthand _ _ => []
  | .getIcrHighRegDestination _ => []
  | .withIcrHighRegDestination _ _ => []
  | .getLvtTimerRegVector _ => []
  | .withLvtTimerRegVector _ _ => []
  | .getLvtTimerRegDeliveryStatus _ => []
  | .withLvtTimerRegDeliveryStatus _ _ => []
  | .getLvtTimerRegMask _ => []
  | .withLvtTimerRegMask _ _ => []
  | .getLvtTimerRegTimerMode _ => []
  | .withLvtTimerRegTimerMode _ _ => []
  | .getLvtThermalRegVector _ => []
  | .withLvtThermalRegVector _ _ => []
  | .getLvtThermalRegDeliveryMode _ => []
  | .withLvtThermalRegDeliveryMode _ _ => []
  | .getLvtThermalRegDeliveryStatus _ => []
  | .withLvtThermalRegDeliveryStatus _ _ => []
  | .getLvtThermalRegMask _ => []
  | .withLvtThermalRegMask _ _ => []
  | .getLvtPerfRegVector _ => []
  | .withLvtPerfRegVector _ _ => []
  | .getLvtPerfRegDeliveryMode _ => []
  | .withLvtPerfRegDeliveryMode _ _ => []
  | .getLvtPerfRegDeliveryStatus _ => []
  | .withLvtPerfRegDeliveryStatus _ _ => []
  | .getLvtPerfRegMask _ => []
  | .withLvtPerfRegMask _ _ => []
  | .getLvtLintRegVector _ => []
  | .withLvtLintRegVector _ _ => []
  | .getLvtLintRegDeliveryMode _ => []
  | .withLvtLintRegDeliveryMode _ _ => []
  | .getLvtLintRegDeliveryStatus _ => []
  | .withLvtLintRegDeliveryStatus _ _ => []
  | .getLvtLintRegPolarity _ => []
  | .withLvtLintRegPolarity _ _ => []
  | .getLvtLintRegRemoteIrr _ => []
  | .withLvtLintRegRemoteIrr _ _ => []
  | .getLvtLintRegTriggerMode _ => []
  | .withLvtLintRegTriggerMode _ _ => []
  | .getLvtLintRegMask _ => []
  | .withLvtLintRegMask _ _ => []
  | .getLvtErrorRegVector _ => []
  | .withLvtErrorRegVector _ _ => []
  | .getLvtErrorRegDeliveryStatus _ => []
  | .withLvtErrorRegDeliveryStatus _ _ => []
  | .getLvtErrorRegMask _ => []
  | .withLvtErrorRegMask _ _ => []
  | .getTimerCountRegCount _ => []
  | .withTimerCountRegCount _ _ => []
  | .getTimerDivideRegDivLo _ => []
  | .withTimerDivideRegDivLo _ _ => []
  | .getTimerDivideRegDivHi _ => []
  | .withTimerDivideRegDivHi _ _ => []

end Sys2Proof.Machine
end

