-- ==== Sys2Proof/Safety.lean ====
section
/-! DEFINITION. The words the claims are stated in: the canonical form, a clean block (10_state.md R28), a host that keeps
its obligation on reserved bits (70_reset_and_hazards.md R225), an operation inside its domain (20_memory.md R37),
and a run of operations in the host's order (20_memory.md R44). -/

namespace Sys2Proof.Machine

/-- The block's byte list is in its canonical form. -/
abbrev CanonicalMem (s : State) : Prop := s.mem.wf = true

/-- "Call the block clean when every reserved range of every named slot and every byte of every reserved region is zero"
(R28), byte by byte. -/
def Clean (s : State) : Prop := ∀ a, a < Config.rfBytes → s.mem.read a &&& reservedByte a = 0#8

/-- A record writes zero to every reserved bit it covers (R225). -/
def Txn.ZeroReserved (t : Txn) : Prop :=
  match t.access with
  | .read _ => True
  | .write d => ∀ k, k < d.length → d.getD k 0#8 &&& reservedByte (t.addr + k) = 0#8

/-- The host's obligation on raw writes (R225); the accessor `SETF` has none. -/
def RespectsReserved (i : Instr) (s : State) : Prop :=
  match i with
  | .setf _ _ _ => True
  | i => ∀ t ∈ transactions i s, t.ZeroReserved

/-- Every record the operation expands to lies in the block (20_memory.md R37). -/
def InDomain (i : Instr) (s : State) : Prop := ∀ t ∈ transactions i s, inBlock t.addr t.access.size = true

/-- A safe step has a next state: no refusal. -/
def SafeStep (s : State) : Prop := ∃ t, step s = .next t

/-- The operations performed one after another, stopping at the first that has no next state. -/
def execAll : List Instr → State → Host.Outcome State Fault Refusal
  | [], s => .next s
  | i :: is, s =>
    match exec i s with
    | .next t => execAll is t
    | .fault r => .fault r
    | .refused r => .refused r

end Sys2Proof.Machine
end

