-- ==== Sys2Proof/Certificates/Slice0/Obligations.lean ====
section
/-! DEFINITION. The statements for the provers, from the numbered rules of spec/. `State.results` is where a value returned to
the host goes and `State.port` where its operations come from (logs 2, 3); where a statement says what `State.held` becomes
after anything but `SET`, its docstring names log 4. -/

namespace Sys2Proof.Machine

/-- The operation completes and does nothing but return `r` to the host. -/
def Returns (o : Host.Outcome State Fault Refusal) (s : State) (r : Result) : Prop :=
  o = .next { s with results := s.results ++ [r] }

/-- The operation completes and does nothing but return the slot value `v` to the host; which value the host holds
afterwards is left open here. -/
def ReturnsSlot (o : Host.Outcome State Fault Refusal) (s : State) (v : Slot) : Prop :=
  ∃ h, o = .next { s with results := s.results ++ [.slot v], held := h }

/-- The operation completes and does nothing but put the bytes `d` at offset `a` of the block: the byte at `a + k` is
then `d[k]`, and every other byte is as before. -/
def Stores (o : Host.Outcome State Fault Refusal) (s : State) (a : Nat) (d : List Byte) : Prop :=
  ∃ m, o = .next { s with mem := m } ∧
    (∀ k, k < d.length → m.read (a + k) = d.getD k 0#8) ∧
    ∀ c, ¬ (a ≤ c ∧ c < a + d.length) → m.read c = s.mem.read c

/-- `WITH(s, lsb, w, v)` written out (40_value_ops.md R79). -/
def withWritten (lsb w : Nat) (x : Slot) (v : RegWord) : Slot :=
  (x &&& ~~~(BitVec.ofNat 128 (2 ^ w - 1) <<< lsb)) ||| ((v.extractLsb' 0 w).setWidth 128 <<< lsb)

/-- What the rule of one named field says: its getter and setter rows on a slot value, and its block forms on every entry
`(E, off(E))` that has the type. No flag and no exception; every value of the operand is accepted. -/
def FieldRule (get : Slot → Instr) (put : Slot → RegWord → Instr) (f : Field) (entries : List (Entry × Nat))
    (lsb w : Nat) : Prop :=
  ∀ (s : State) (x : Slot) (v : RegWord),
    Returns (exec (get x) s) s (.field w (x.extractLsb' lsb w)) ∧
    ReturnsSlot (exec (put x v) s) s (withWritten lsb w x v) ∧
    ∀ p ∈ entries,
      Returns (exec (.getf p.1 f) s) s (.field w ((s.mem.slotAt p.2).extractLsb' lsb w)) ∧
      (CanonicalMem s → Stores (exec (.setf p.1 f v) s) s p.2 (slotBytes (withWritten lsb w (s.mem.slotAt p.2) v)))

/-- What a row of the operation map does at block offset `addr`: a read returns the `n` bytes there, a write stores its
bytes there, and an access not inside the block is refused. -/
def AccessRule (row : Access → Instr) (addr : Nat) : Prop :=
  ∀ s : State,
    (∀ n, 1 ≤ n → addr + n ≤ 1024 → Returns (exec (row (.read n)) s) s (.raw n (s.mem.valAt addr n))) ∧
    (∀ d, CanonicalMem s → 1 ≤ d.length → addr + d.length ≤ 1024 → Stores (exec (row (.write d)) s) s addr d) ∧
    ∀ t, ¬ (1 ≤ t.size ∧ addr + t.size ≤ 1024) → exec (row t) s = .refused (.outsideBlock addr t.size)

end Sys2Proof.Machine

open Sys2Proof Sys2Proof.Machine

/-- R222: in the reset state every byte is zero, `GETF` of every field of every entry returns 0, `RF_TO_BYTES`
returns 1024 zero bytes, and the block is clean. -/
def Obligations.ResetStateIsZeroAndClean : Prop :=
  (∀ a, a < 1024 → State.reset.mem.read a = 0#8) ∧
  (∀ e f, f.regType = e.regType →
    Returns (exec (.getf e f) State.reset) State.reset (.field f.width 0#f.width)) ∧
  Returns (exec .rfToBytes State.reset) State.reset (.bytes (List.replicate 1024 0#8)) ∧
  Clean State.reset

/-- The memory of the reset state is in the canonical form (offsets rising, inside the block, no listed byte equal
to the unlisted one). -/
def Obligations.ResetMemoryIsCanonical : Prop :=
  CanonicalMem State.reset

/-- For every state whose memory is canonical, if a step answers next then the memory of the next state is
canonical: offsets strictly rising, all in 0 to 1023, no listed byte equal to the unlisted one. -/
def Obligations.EveryStepKeepsMemoryCanonical : Prop :=
  ∀ s t, CanonicalMem s → step s = .next t → CanonicalMem t

/-- The 1024 bytes determine the memory: two canonical byte lists that read alike at every offset of the block are
the same list. -/
def Obligations.CanonicalMemoriesReadingAlikeAreEqual : Prop :=
  ∀ m m' : Memory, m.wf = true → m'.wf = true → (∀ a, a < 1024 → m.read a = m'.read a) → m = m'

/-- R37, R185, R186: for `n >= 1` and `addr + n <= 1024`, a raw read returns the `8n`-bit value whose byte `k` is
`M[addr + k]` and changes nothing else, and a raw write of `n` bytes puts byte `k` at `addr + k` and changes no
other byte; for any other `(addr, n)` both are refused; the absolute address is `BASE + addr`. -/
def Obligations.MemReadAndMemWriteByteByByte : Prop :=
  ∀ (s : State) (addr n : BitVec 11) (d : List Byte), CanonicalMem s → d.length = n.toNat →
    Config.absAddr addr.toNat = Config.base + addr.toNat ∧
    if 1 ≤ n.toNat ∧ addr.toNat + n.toNat ≤ 1024 then
      (∃ v : BitVec (8 * n.toNat), Returns (exec (.rd addr n) s) s (.raw n.toNat v) ∧
        ∀ k, k < n.toNat → v.extractLsb' (8 * k) 8 = s.mem.read (addr.toNat + k)) ∧
      Stores (exec (.wr addr d) s) s addr.toNat d
    else
      exec (.rd addr n) s = .refused (.outsideBlock addr.toNat n.toNat) ∧
      exec (.wr addr d) s = .refused (.outsideBlock addr.toNat n.toNat)

/-- A read repeated returns the same value and changes nothing in the block; writing the same bytes twice leaves the
same state as writing them once; if `WR addr, n, v` completes, `RD addr, n` right after it completes and returns
the written bytes in order. -/
def Obligations.RawAccessesRepeatAndReadBack : Prop :=
  (∀ (s t : State) (addr n : BitVec 11), exec (.rd addr n) s = .next t →
    ∃ r, t = { s with results := s.results ++ [r] } ∧ Returns (exec (.rd addr n) t) t r) ∧
  ∀ (s t : State) (addr n : BitVec 11) (d : List Byte), CanonicalMem s → exec (.wr addr d) s = .next t →
    exec (.wr addr d) t = .next t ∧
    (d.length = n.toNat → ∃ v : BitVec (8 * n.toNat), Returns (exec (.rd addr n) t) t (.raw n.toNat v) ∧
      ∀ k, k < n.toNat → v.extractLsb' (8 * k) 8 = d.getD k 0#8)

/-- For every slot index i, a 1-byte raw write to offset 16*i+3 completes, changes no other byte, and the register
word of slot i afterwards has the byte in bits 31:24 and its old bits 23:0. -/
def Obligations.OneByteWriteChangesOneByteOfTheWord : Prop :=
  ∀ (s : State) (i : Nat) (b : Byte), i < 64 → CanonicalMem s →
    Stores (exec (.wr (BitVec.ofNat 11 (16 * i + 3)) [b]) s) s (16 * i + 3) [b] ∧
    ∀ t, exec (.wr (BitVec.ofNat 11 (16 * i + 3)) [b]) s = .next t →
      t.mem.wordAt (16 * i) = (s.mem.wordAt (16 * i) &&& 0x00FFFFFF#32) ||| (b.setWidth 32 <<< 24)

/-- R77: `DEFAULT T` always completes and returns 0 (128 bits), for every type; nothing of the block changes. -/
def Obligations.DefaultReturnsZero : Prop :=
  ∀ (T : RegType) (s : State), ReturnsSlot (exec (.opDefault T) s) s 0#128

/-- R78: `GET` completes for every field and slot value, returns `(s >> lsb)[w-1:0]`, equivalently `s[lsb+w-1 :
lsb]`, changes nothing else, and gives the same result on any slot value that agrees on the named bits of the
type, so it depends on no reserved bit and no padding bit. -/
def Obligations.GetReturnsTheFieldBits : Prop :=
  ∀ (f : Field) (x : Slot) (s : State),
    Returns (exec (.opGet f x) s) s (.field f.width ((x >>> f.lsb).extractLsb' 0 f.width)) ∧
    Returns (exec (.opGet f x) s) s (.field f.width (x.extractLsb' f.lsb f.width)) ∧
    ∀ y : Slot, x &&& f.regType.named = y &&& f.regType.named →
      Returns (exec (.opGet f y) s) s (.field f.width (x.extractLsb' f.lsb f.width))

/-- R79: `WITH` completes for every field, slot value and operand, returns `(s & ~m) | (zext_128(v[w-1:0]) << lsb)`
with `m = zext_128(mask(w)) << lsb`, copies every bit outside the field, and setting a field to the value it has
returns `s`. -/
def Obligations.WithReplacesTheFieldBits : Prop :=
  ∀ (f : Field) (x : Slot) (v : RegWord) (s : State),
    ReturnsSlot (exec (.opWith f x v) s) s (withWritten f.lsb f.width x v) ∧
    (∀ i, ¬ (f.lsb ≤ i ∧ i < f.lsb + f.width) → (withWritten f.lsb f.width x v).getLsbD i = x.getLsbD i) ∧
    withWritten f.lsb f.width x ((x.extractLsb' f.lsb f.width).setWidth 32) = x

/-- R80: the in-place form completes and the held value becomes `WITH` of it; nothing else changes. That the host
holds ONE value, and which, is the model's (log 4). -/
def Obligations.SetReplacesTheHeldValue : Prop :=
  ∀ (f : Field) (v : RegWord) (s : State),
    exec (.opSet f v) s = .next { s with held := withWritten f.lsb f.width s.held v }

/-- R81, R82: `TO_BYTES` completes on every slot value and returns 16 bytes, byte k being bits 8k+7 to 8k;
`FROM_BYTES` completes on every 16-byte sequence and returns the slot value with those bytes. -/
def Obligations.ToBytesAndFromBytesAreLittleEndian : Prop :=
  ∀ s : State,
    (∀ x : Slot, ∃ b, b.length = 16 ∧ (∀ k, k < 16 → b.getD k 0#8 = x.extractLsb' (8 * k) 8) ∧
      Returns (exec (.toBytes x) s) s (.bytes b)) ∧
    ∀ b : List Byte, b.length = 16 → ∃ x : Slot, (∀ k, k < 16 → x.extractLsb' (8 * k) 8 = b.getD k 0#8) ∧
      ReturnsSlot (exec (.fromBytes b) s) s x

/-- R83: `EQ` completes and returns whether the two 128-bit values are equal. -/
def Obligations.EqComparesEveryBit : Prop :=
  ∀ (x y : Slot) (s : State), Returns (exec (.opEq x y) s) s (.truth (decide (x = y)))

/-- R84, laws L1, L3, L4, L5 for every field and L2, L6 for every two distinct fields of one type, for every slot
value and all operands, of the functions `getBits` and `withBits` that every getter and setter is. -/
def Obligations.FieldLawsL1ToL6 : Prop :=
  ∀ (f : Field) (x : Slot) (v v1 v2 : BitVec f.width),
    getBits f.lsb f.width (withBits f.lsb f.width x v) = v ∧
    withBits f.lsb f.width x v &&& ~~~f.slotMask = x &&& ~~~f.slotMask ∧
    withBits f.lsb f.width x (getBits f.lsb f.width x) = x ∧
    withBits f.lsb f.width (withBits f.lsb f.width x v1) v2 = withBits f.lsb f.width x v2 ∧
    ∀ (g : Field) (u : BitVec g.width), f.regType = g.regType → f ≠ g →
      getBits g.lsb g.width (withBits f.lsb f.width x v) = getBits g.lsb g.width x ∧
      withBits g.lsb g.width (withBits f.lsb f.width x v) u = withBits f.lsb f.width (withBits g.lsb g.width x u) v

/-- R85, laws L7 and L8, for every slot value and every 16-byte sequence. -/
def Obligations.ByteLawsL7AndL8 : Prop :=
  (∀ x : Slot, ofBytes 128 (slotBytes x) = x) ∧ ∀ b : List Byte, b.length = 16 → slotBytes (ofBytes 128 b) = b

/-- R87: if the padding of `s` is zero so is that of `WITH` of it, and for every type and every list of setters of
that type, the value they build from 0 has zero padding and zero reserved bits; `FROM_BYTES` yields non-zero
padding exactly from bytes 4 to 15 that are not all zero. -/
def Obligations.SettersAloneKeepPaddingAndReservedZero : Prop :=
  (∀ (f : Field) (x : Slot) (v : RegWord), x.extractLsb' 32 96 = 0#96 → (withField f x v).extractLsb' 32 96 = 0#96) ∧
  (∀ (T : RegType) (sets : List (Field × RegWord)), (∀ p ∈ sets, p.1.regType = T) →
    (sets.foldl (fun x p => withField p.1 x p.2) 0#128).extractLsb' 32 96 = 0#96 ∧
    sets.foldl (fun x p => withField p.1 x p.2) 0#128 &&& ~~~T.named = 0#128) ∧
  ∀ b : List Byte, b.length = 16 →
    ((ofBytes 128 b).extractLsb' 32 96 = 0#96 ↔ ∀ k, 4 ≤ k → k < 16 → b.getD k 0#8 = 0#8)

/-- R89: on every field, slot value and operand the word-level definitions give what the slot-level ones give, all
word operations at 32 bits. -/
def Obligations.GetAndWithOnTheRegisterWord : Prop :=
  ∀ (f : Field) (x : Slot) (v : BitVec f.width),
    getBits f.lsb f.width x = ((x.extractLsb' 0 32 >>> f.lsb) &&& BitVec.ofNat 32 (2 ^ f.width - 1)).extractLsb' 0 f.width ∧
    withBits f.lsb f.width x v =
      x.extractLsb' 32 96 ++
        ((x.extractLsb' 0 32 &&& ~~~(BitVec.ofNat 32 (2 ^ f.width - 1) <<< f.lsb)) ||| (v.setWidth 32 <<< f.lsb))

/-- R101, R103, R104, R106, R107: for each of these fields the getter completes and returns exactly its bits, the
setter completes and returns the slot value with exactly its bits replaced, for every slot value and every
operand (its low w bits), and the block forms GETF and SETF do the same on the slot of every entry that has the
type, every byte outside that slot as before. The positions in IdReg and VersionReg are the document's; those in
PriorityReg (R106, R107) are supplied by the spec's own decision D8 (D17 for the two fields), taken as it gives
them (log 9, DEDUCED). -/
def Obligations.IdVersionPriorityFields : Prop :=
  FieldRule .getIdRegId .withIdRegId .idRegId [(.id, 0x020)] 24 4 ∧
  FieldRule .getVersionRegVersion .withVersionRegVersion .versionRegVersion [(.ver, 0x030)] 0 8 ∧
  FieldRule .getVersionRegMaxLvtEntry .withVersionRegMaxLvtEntry .versionRegMaxLvtEntry [(.ver, 0x030)] 16 8 ∧
  FieldRule .getPriorityRegSubclass .withPriorityRegSubclass .priorityRegSubclass [(.tpr, 0x080), (.apr, 0x090), (.ppr, 0x0A0)] 0 4 ∧
  FieldRule .getPriorityRegClass .withPriorityRegClass .priorityRegClass [(.tpr, 0x080), (.apr, 0x090), (.ppr, 0x0A0)] 4 4

/-- R109, R120, R168: for each of these fields the getter completes and returns exactly its bits, the setter
completes and returns the slot value with exactly its bits replaced, for every slot value and every operand (its
low w bits), and the block forms GETF and SETF do the same on the slot of every entry that has the type, every
byte outside that slot as before. The positions in EoiReg and TimerCountReg (R109, R168) are supplied by the
spec's own decision D8 (D17 for the one field each), taken as it gives them (log 9, DEDUCED); Bitmask32Reg
(R120) the spec derives from the document's words. -/
def Obligations.WholeWordFields : Prop :=
  FieldRule .getEoiRegValue .withEoiRegValue .eoiRegValue [(.eoi, 0x0B0)] 0 32 ∧
  (∀ k : BitVec 3, FieldRule .getBitmask32RegBits .withBitmask32RegBits .bitmask32RegBits [(.isr k, 0x100 + 16 * k.toNat), (.tmr k, 0x180 + 16 * k.toNat), (.irr k, 0x200 + 16 * k.toNat)] 0 32) ∧
  FieldRule .getTimerCountRegCount .withTimerCountRegCount .timerCountRegCount [(.ticr, 0x380), (.tccr, 0x390)] 0 32

/-- R111, R113, R139: for each of these fields the getter completes and returns exactly its bits, the setter
completes and returns the slot value with exactly its bits replaced, for every slot value and every operand (its
low w bits), and the block forms GETF and SETF do the same on the slot of every entry that has the type, every
byte outside that slot as before. All three layouts (R111, R113, R139) are supplied by the spec's own decision
D8, taken as it gives them (log 9, DEDUCED). -/
def Obligations.DestinationFields : Prop :=
  FieldRule .getLogicalDestRegLogicalId .withLogicalDestRegLogicalId .logicalDestRegLogicalId [(.ldr, 0x0D0)] 24 8 ∧
  FieldRule .getDestFormatRegModel .withDestFormatRegModel .destFormatRegModel [(.dfr, 0x0E0)] 28 4 ∧
  FieldRule .getIcrHighRegDestination .withIcrHighRegDestination .icrHighRegDestination [(.icrh, 0x310)] 24 8

/-- R115, R116, R117, R118: for each of these fields the getter completes and returns exactly its bits, the setter
completes and returns the slot value with exactly its bits replaced, for every slot value and every operand (its
low w bits), and the block forms GETF and SETF do the same on the slot of every entry that has the type, every
byte outside that slot as before. The positions in SpuriousReg are supplied by the spec's own decisions D8 and
D9, taken as they give them (log 9, DEDUCED). -/
def Obligations.SpuriousVectorFields : Prop :=
  FieldRule .getSpuriousRegVector .withSpuriousRegVector .spuriousRegVector [(.svr, 0x0F0)] 0 8 ∧
  FieldRule .getSpuriousRegEnable .withSpuriousRegEnable .spuriousRegEnable [(.svr, 0x0F0)] 8 1 ∧
  FieldRule .getSpuriousRegFocusCheck .withSpuriousRegFocusCheck .spuriousRegFocusCheck [(.svr, 0x0F0)] 9 1 ∧
  FieldRule .getSpuriousRegEoiBcastSuppress .withSpuriousRegEoiBcastSuppress .spuriousRegEoiBcastSuppress [(.svr, 0x0F0)] 12 1

/-- R122, R123, R124, R125, R126, R127, R128, R129: for each of these fields the getter completes and returns
exactly its bits, the setter completes and returns the slot value with exactly its bits replaced, for every slot
value and every operand (its low w bits), and the block forms GETF and SETF do the same on the slot of every
entry that has the type, every byte outside that slot as before. The layout of ErrorStatusReg is supplied by the
spec's own decisions D8 and D17, taken as they give it (log 9, DEDUCED). -/
def Obligations.ErrorStatusFields : Prop :=
  FieldRule .getErrorStatusRegSendChecksum .withErrorStatusRegSendChecksum .errorStatusRegSendChecksum [(.esr, 0x280)] 0 1 ∧
  FieldRule .getErrorStatusRegRecvChecksum .withErrorStatusRegRecvChecksum .errorStatusRegRecvChecksum [(.esr, 0x280)] 1 1 ∧
  FieldRule .getErrorStatusRegSendAccept .withErrorStatusRegSendAccept .errorStatusRegSendAccept [(.esr, 0x280)] 2 1 ∧
  FieldRule .getErrorStatusRegRecvAccept .withErrorStatusRegRecvAccept .errorStatusRegRecvAccept [(.esr, 0x280)] 3 1 ∧
  FieldRule .getErrorStatusRegRedirectableIpi .withErrorStatusRegRedirectableIpi .errorStatusRegRedirectableIpi [(.esr, 0x280)] 4 1 ∧
  FieldRule .getErrorStatusRegSendIllegalVector .withErrorStatusRegSendIllegalVector .errorStatusRegSendIllegalVector [(.esr, 0x280)] 5 1 ∧
  FieldRule .getErrorStatusRegRecvIllegalVector .withErrorStatusRegRecvIllegalVector .errorStatusRegRecvIllegalVector [(.esr, 0x280)] 6 1 ∧
  FieldRule .getErrorStatusRegIllegalRegAddr .withErrorStatusRegIllegalRegAddr .errorStatusRegIllegalRegAddr [(.esr, 0x280)] 7 1

/-- R131, R132, R133, R134, R135, R136, R137: for each of these fields the getter completes and returns exactly its
bits, the setter completes and returns the slot value with exactly its bits replaced, for every slot value and
every operand (its low w bits), and the block forms GETF and SETF do the same on the slot of every entry that
has the type, every byte outside that slot as before. -/
def Obligations.CommandLowFields : Prop :=
  FieldRule .getIcrLowRegVector .withIcrLowRegVector .icrLowRegVector [(.icrl, 0x300)] 0 8 ∧
  FieldRule .getIcrLowRegDeliveryMode .withIcrLowRegDeliveryMode .icrLowRegDeliveryMode [(.icrl, 0x300)] 8 3 ∧
  FieldRule .getIcrLowRegDestMode .withIcrLowRegDestMode .icrLowRegDestMode [(.icrl, 0x300)] 11 1 ∧
  FieldRule .getIcrLowRegDeliveryStatus .withIcrLowRegDeliveryStatus .icrLowRegDeliveryStatus [(.icrl, 0x300)] 12 1 ∧
  FieldRule .getIcrLowRegLevel .withIcrLowRegLevel .icrLowRegLevel [(.icrl, 0x300)] 14 1 ∧
  FieldRule .getIcrLowRegTriggerMode .withIcrLowRegTriggerMode .icrLowRegTriggerMode [(.icrl, 0x300)] 15 1 ∧
  FieldRule .getIcrLowRegShorthand .withIcrLowRegShorthand .icrLowRegShorthand [(.icrl, 0x300)] 18 2

/-- R141, R142, R143, R144, R164, R165, R166: for each of these fields the getter completes and returns exactly its
bits, the setter completes and returns the slot value with exactly its bits replaced, for every slot value and
every operand (its low w bits), and the block forms GETF and SETF do the same on the slot of every entry that
has the type, every byte outside that slot as before. The layout of LvtTimerReg (R141 to R144) is the
document's; that of LvtErrorReg (R164 to R166) is supplied by the spec's own decision D8, taken as it gives it
(log 9, DEDUCED). -/
def Obligations.TimerAndErrorVectorTableFields : Prop :=
  FieldRule .getLvtTimerRegVector .withLvtTimerRegVector .lvtTimerRegVector [(.lvtt, 0x320)] 0 8 ∧
  FieldRule .getLvtTimerRegDeliveryStatus .withLvtTimerRegDeliveryStatus .lvtTimerRegDeliveryStatus [(.lvtt, 0x320)] 12 1 ∧
  FieldRule .getLvtTimerRegMask .withLvtTimerRegMask .lvtTimerRegMask [(.lvtt, 0x320)] 16 1 ∧
  FieldRule .getLvtTimerRegTimerMode .withLvtTimerRegTimerMode .lvtTimerRegTimerMode [(.lvtt, 0x320)] 17 1 ∧
  FieldRule .getLvtErrorRegVector .withLvtErrorRegVector .lvtErrorRegVector [(.lvterr, 0x370)] 0 8 ∧
  FieldRule .getLvtErrorRegDeliveryStatus .withLvtErrorRegDeliveryStatus .lvtErrorRegDeliveryStatus [(.lvterr, 0x370)] 12 1 ∧
  FieldRule .getLvtErrorRegMask .withLvtErrorRegMask .lvtErrorRegMask [(.lvterr, 0x370)] 16 1

/-- R146, R147, R148, R149, R151, R152, R153, R154: for each of these fields the getter completes and returns
exactly its bits, the setter completes and returns the slot value with exactly its bits replaced, for every slot
value and every operand (its low w bits), and the block forms GETF and SETF do the same on the slot of every
entry that has the type, every byte outside that slot as before. Both layouts are supplied by the spec's own
decision D8, taken as it gives them (log 9, DEDUCED). -/
def Obligations.ThermalAndPerformanceVectorTableFields : Prop :=
  FieldRule .getLvtThermalRegVector .withLvtThermalRegVector .lvtThermalRegVector [(.lvtth, 0x330)] 0 8 ∧
  FieldRule .getLvtThermalRegDeliveryMode .withLvtThermalRegDeliveryMode .lvtThermalRegDeliveryMode [(.lvtth, 0x330)] 8 3 ∧
  FieldRule .getLvtThermalRegDeliveryStatus .withLvtThermalRegDeliveryStatus .lvtThermalRegDeliveryStatus [(.lvtth, 0x330)] 12 1 ∧
  FieldRule .getLvtThermalRegMask .withLvtThermalRegMask .lvtThermalRegMask [(.lvtth, 0x330)] 16 1 ∧
  FieldRule .getLvtPerfRegVector .withLvtPerfRegVector .lvtPerfRegVector [(.lvtpc, 0x340)] 0 8 ∧
  FieldRule .getLvtPerfRegDeliveryMode .withLvtPerfRegDeliveryMode .lvtPerfRegDeliveryMode [(.lvtpc, 0x340)] 8 3 ∧
  FieldRule .getLvtPerfRegDeliveryStatus .withLvtPerfRegDeliveryStatus .lvtPerfRegDeliveryStatus [(.lvtpc, 0x340)] 12 1 ∧
  FieldRule .getLvtPerfRegMask .withLvtPerfRegMask .lvtPerfRegMask [(.lvtpc, 0x340)] 16 1

/-- R156, R157, R158, R159, R160, R161, R162: for each of these fields the getter completes and returns exactly its
bits, the setter completes and returns the slot value with exactly its bits replaced, for every slot value and
every operand (its low w bits), and the block forms GETF and SETF do the same on the slot of every entry that
has the type, every byte outside that slot as before. The layout of LvtLintReg is supplied by the spec's own
decision D8, taken as it gives it (log 9, DEDUCED). -/
def Obligations.LocalInterruptVectorTableFields : Prop :=
  FieldRule .getLvtLintRegVector .withLvtLintRegVector .lvtLintRegVector [(.lvtl0, 0x350), (.lvtl1, 0x360)] 0 8 ∧
  FieldRule .getLvtLintRegDeliveryMode .withLvtLintRegDeliveryMode .lvtLintRegDeliveryMode [(.lvtl0, 0x350), (.lvtl1, 0x360)] 8 3 ∧
  FieldRule .getLvtLintRegDeliveryStatus .withLvtLintRegDeliveryStatus .lvtLintRegDeliveryStatus [(.lvtl0, 0x350), (.lvtl1, 0x360)] 12 1 ∧
  FieldRule .getLvtLintRegPolarity .withLvtLintRegPolarity .lvtLintRegPolarity [(.lvtl0, 0x350), (.lvtl1, 0x360)] 13 1 ∧
  FieldRule .getLvtLintRegRemoteIrr .withLvtLintRegRemoteIrr .lvtLintRegRemoteIrr [(.lvtl0, 0x350), (.lvtl1, 0x360)] 14 1 ∧
  FieldRule .getLvtLintRegTriggerMode .withLvtLintRegTriggerMode .lvtLintRegTriggerMode [(.lvtl0, 0x350), (.lvtl1, 0x360)] 15 1 ∧
  FieldRule .getLvtLintRegMask .withLvtLintRegMask .lvtLintRegMask [(.lvtl0, 0x350), (.lvtl1, 0x360)] 16 1

/-- R170, R171: for each of these fields the getter completes and returns exactly its bits, the setter completes and
returns the slot value with exactly its bits replaced, for every slot value and every operand (its low w bits),
and the block forms GETF and SETF do the same on the slot of every entry that has the type, every byte outside
that slot as before. The layout of TimerDivideReg is supplied by the spec's own decisions D8 and D17, taken as
they give it (log 9, DEDUCED). -/
def Obligations.TimerDivisorFields : Prop :=
  FieldRule .getTimerDivideRegDivLo .withTimerDivideRegDivLo .timerDivideRegDivLo [(.tdcr, 0x3E0)] 0 2 ∧
  FieldRule .getTimerDivideRegDivHi .withTimerDivideRegDivHi .timerDivideRegDivHi [(.tdcr, 0x3E0)] 3 1

/-- R181: `RF_DEFAULT` completes in any state with canonical memory, and the block is then the reset block, every
byte zero; nothing else changes. -/
def Obligations.RfDefaultZeroesTheBlock : Prop :=
  ∀ s : State, CanonicalMem s → exec .rfDefault s = .next { s with mem := State.reset.mem } ∧
    ∀ a, a < 1024 → State.reset.mem.read a = 0#8

/-- R183, R184: `RF_TO_BYTES` completes and returns the stored bytes; `RF_FROM_BYTES` of 1024 bytes completes and
stores every one; each undoes the other. -/
def Obligations.WholeBlockConversionsAreLossless : Prop :=
  ∀ s : State,
    Returns (exec .rfToBytes s) s (.bytes ((List.range 1024).map s.mem.read)) ∧
    (∀ b : List Byte, b.length = 1024 → CanonicalMem s →
      Stores (exec (.rfFromBytes b) s) s 0 b ∧
      ∀ t, exec (.rfFromBytes b) s = .next t → Returns (exec .rfToBytes t) t (.bytes b)) ∧
    (CanonicalMem s → exec (.rfFromBytes ((List.range 1024).map s.mem.read)) s = .next s)

/-- Where the two forms stop: a byte sequence of another length than 16 is no operand of `FROM_BYTES` (log 6), and
"overlaying fewer than 1024 bytes" is a precondition violation of `RF_FROM_BYTES`; no byte changes. -/
def Obligations.ByteSequencesOfAnotherLengthAreRefused : Prop :=
  ∀ (s : State) (b : List Byte),
    (b.length ≠ 16 → exec (.fromBytes b) s = .refused (.wrongByteCount 16 b.length)) ∧
    (b.length ≠ 1024 → exec (.rfFromBytes b) s = .refused (.wrongByteCount 1024 b.length))

/-- R182: off(E) is the listed offset for each of the 24 entries, element k (0 to 7, no other index exists) of an
array is 16*k bytes on, T(E) is the type of the entry, slot(E) = off(E) / 16 exactly, and the block has 1024
bytes. The offsets are those of R182; the types are those 10_state.md R18 lists, which rest on the spec's own
decision D7 (log 9, DEDUCED). -/
def Obligations.EntryOffsetsAreTheListedOnes : Prop :=
  (Entry.id.offset = 0x020 ∧ Entry.id.regType = .idReg) ∧
  (Entry.ver.offset = 0x030 ∧ Entry.ver.regType = .versionReg) ∧
  (Entry.tpr.offset = 0x080 ∧ Entry.tpr.regType = .priorityReg) ∧
  (Entry.apr.offset = 0x090 ∧ Entry.apr.regType = .priorityReg) ∧
  (Entry.ppr.offset = 0x0A0 ∧ Entry.ppr.regType = .priorityReg) ∧
  (Entry.eoi.offset = 0x0B0 ∧ Entry.eoi.regType = .eoiReg) ∧
  (Entry.ldr.offset = 0x0D0 ∧ Entry.ldr.regType = .logicalDestReg) ∧
  (Entry.dfr.offset = 0x0E0 ∧ Entry.dfr.regType = .destFormatReg) ∧
  (Entry.svr.offset = 0x0F0 ∧ Entry.svr.regType = .spuriousReg) ∧
  (∀ k : BitVec 3, (Entry.isr k).offset = 0x100 + 16 * k.toNat ∧ (Entry.isr k).regType = .bitmask32Reg) ∧
  (∀ k : BitVec 3, (Entry.tmr k).offset = 0x180 + 16 * k.toNat ∧ (Entry.tmr k).regType = .bitmask32Reg) ∧
  (∀ k : BitVec 3, (Entry.irr k).offset = 0x200 + 16 * k.toNat ∧ (Entry.irr k).regType = .bitmask32Reg) ∧
  (Entry.esr.offset = 0x280 ∧ Entry.esr.regType = .errorStatusReg) ∧
  (Entry.icrl.offset = 0x300 ∧ Entry.icrl.regType = .icrLowReg) ∧
  (Entry.icrh.offset = 0x310 ∧ Entry.icrh.regType = .icrHighReg) ∧
  (Entry.lvtt.offset = 0x320 ∧ Entry.lvtt.regType = .lvtTimerReg) ∧
  (Entry.lvtth.offset = 0x330 ∧ Entry.lvtth.regType = .lvtThermalReg) ∧
  (Entry.lvtpc.offset = 0x340 ∧ Entry.lvtpc.regType = .lvtPerfReg) ∧
  (Entry.lvtl0.offset = 0x350 ∧ Entry.lvtl0.regType = .lvtLintReg) ∧
  (Entry.lvtl1.offset = 0x360 ∧ Entry.lvtl1.regType = .lvtLintReg) ∧
  (Entry.lvterr.offset = 0x370 ∧ Entry.lvterr.regType = .lvtErrorReg) ∧
  (Entry.ticr.offset = 0x380 ∧ Entry.ticr.regType = .timerCountReg) ∧
  (Entry.tccr.offset = 0x390 ∧ Entry.tccr.regType = .timerCountReg) ∧
  (Entry.tdcr.offset = 0x3E0 ∧ Entry.tdcr.regType = .timerDivideReg) ∧
  (∀ e : Entry, 16 * e.slot = e.offset) ∧
  Config.rfBytes = 1024

/-- R187, R188: `RDS` completes and returns the value of the slot's 16 bytes, the block unchanged; `WRS` completes,
stores the 16 bytes of the value, padding included, leaves every other byte, and `RDS` then returns that value. -/
def Obligations.SlotReadsAndWrites : Prop :=
  ∀ (s : State) (e : Entry) (v : Slot),
    (∃ x : Slot, (∀ k, k < 16 → x.extractLsb' (8 * k) 8 = s.mem.read (e.offset + k)) ∧
      ReturnsSlot (exec (.rds e) s) s x) ∧
    (CanonicalMem s → Stores (exec (.wrs e v) s) s e.offset (slotBytes v) ∧
      ∀ t, exec (.wrs e v) s = .next t → ReturnsSlot (exec (.rds e) t) t v)

/-- R189, R190: `RDW` completes and returns the first four bytes as a little-endian word; `WRW` completes, stores
all 32 bits, leaves every other byte and so the 96 padding bits, and `RDW` then returns that word. -/
def Obligations.WordReadsAndWrites : Prop :=
  ∀ (s : State) (e : Entry) (v : RegWord),
    (∃ w : RegWord, (∀ k, k < 4 → w.extractLsb' (8 * k) 8 = s.mem.read (e.offset + k)) ∧
      w = (s.mem.slotAt e.offset).extractLsb' 0 32 ∧ Returns (exec (.rdw e) s) s (.word w)) ∧
    (CanonicalMem s → Stores (exec (.wrw e v) s) s e.offset (wordBytes v) ∧
      ∀ t, exec (.wrw e v) s = .next t → Returns (exec (.rdw e) t) t (.word v) ∧
        (t.mem.slotAt e.offset).extractLsb' 32 96 = (s.mem.slotAt e.offset).extractLsb' 32 96)

/-- R191, R192: for a field of the entry's type, `GETF` completes and returns `GET` of the slot, which the register
word alone gives too; `SETF` completes, stores `WITH` of the slot at the slot, leaves every byte outside the
slot, and inside it every bit outside the field. -/
def Obligations.FieldAccessOnTheBlock : Prop :=
  ∀ (s : State) (e : Entry) (f : Field) (v : RegWord), f.regType = e.regType →
    Returns (exec (.getf e f) s) s (.field f.width ((s.mem.slotAt e.offset).extractLsb' f.lsb f.width)) ∧
    (s.mem.slotAt e.offset).extractLsb' f.lsb f.width =
      (s.mem.wordAt e.offset >>> f.lsb).extractLsb' 0 f.width ∧
    (CanonicalMem s →
      Stores (exec (.setf e f v) s) s e.offset (slotBytes (withWritten f.lsb f.width (s.mem.slotAt e.offset) v)) ∧
      ∀ t, exec (.setf e f v) s = .next t → ∀ i,
        (t.mem.slotAt e.offset).getLsbD i =
          if f.lsb ≤ i ∧ i < f.lsb + f.width then v.getLsbD (i - f.lsb) else (s.mem.slotAt e.offset).getLsbD i)

/-- R193: the 16-byte read-modify-write of `SETF` and one that reads and writes only the 4-byte register word (the
masking of R89 on the word) leave the same state. -/
def Obligations.FieldSetNeedsOnlyTheRegisterWord : Prop :=
  ∀ (s : State) (e : Entry) (f : Field) (v : RegWord), f.regType = e.regType → CanonicalMem s →
    ∃ t, exec (.setf e f v) s = .next t ∧
      exec (.wrw e ((s.mem.wordAt e.offset &&& ~~~(BitVec.ofNat 32 (2 ^ f.width - 1) <<< f.lsb)) |||
        ((v.extractLsb' 0 f.width).setWidth 32 <<< f.lsb))) s = .next t

/-- Where the form stops: applying a field of one type to a slot of another "is not an operation of the hardware"
and "a model's typing should refuse it" (R91; log 7). -/
def Obligations.FieldOfAnotherTypeIsRefused : Prop :=
  ∀ (s : State) (e : Entry) (f : Field) (v : RegWord), f.regType ≠ e.regType →
    exec (.getf e f) s = .refused .fieldOfAnotherType ∧ exec (.setf e f v) s = .refused .fieldOfAnotherType

/-- R194, laws B1 to B5, for all entries and fields of their types with (E, f) different from (E', g). -/
def Obligations.BlockAccessorLawsB1ToB5 : Prop :=
  ∀ (s : State) (e e' : Entry) (f g : Field) (v u : RegWord), CanonicalMem s →
    f.regType = e.regType → g.regType = e'.regType → (e, f) ≠ (e', g) →
    (∀ t, exec (.setf e f v) s = .next t →
      Returns (exec (.getf e f) t) t (.field f.width (v.setWidth f.width)) ∧
      (∃ r, Returns (exec (.getf e' g) s) s r ∧ Returns (exec (.getf e' g) t) t r) ∧
      (∀ c, ¬ (e.offset ≤ c ∧ c < e.offset + 16) → t.mem.read c = s.mem.read c) ∧
      (∀ i, ¬ (f.lsb ≤ i ∧ i < f.lsb + f.width) →
        (t.mem.slotAt e.offset).getLsbD i = (s.mem.slotAt e.offset).getLsbD i)) ∧
    (∃ t t' w, exec (.setf e f v) s = .next t ∧ exec (.setf e' g u) t = .next w ∧
      exec (.setf e' g u) s = .next t' ∧ exec (.setf e f v) t' = .next w) ∧
    (∀ t, exec (.getf e f) s = .next t → t.mem = s.mem) ∧
    (∀ (addr n : BitVec 11) t, exec (.rd addr n) s = .next t → t.mem = s.mem) ∧
    (∀ t, exec (.rds e) s = .next t → t.mem = s.mem) ∧
    (∀ t, exec (.rdw e) s = .next t → t.mem = s.mem) ∧
    (∀ t, exec .rfToBytes s = .next t → t.mem = s.mem)

/-- For each of the 21 single entries, at every byte offset of the row: a read of n bytes inside the block completes
and returns them, a write completes and stores its bytes and no other, and an access that is not inside the
block is refused. That a row of the table stands for the transaction at its offset is the model's reading (log
5). -/
def Obligations.SingleEntryTransactions : Prop :=
  (∀ byte : BitVec 4, AccessRule (.accId byte) (0x020 + byte.toNat)) ∧
  (∀ byte : BitVec 4, AccessRule (.accVer byte) (0x030 + byte.toNat)) ∧
  (∀ byte : BitVec 4, AccessRule (.accTpr byte) (0x080 + byte.toNat)) ∧
  (∀ byte : BitVec 4, AccessRule (.accApr byte) (0x090 + byte.toNat)) ∧
  (∀ byte : BitVec 4, AccessRule (.accPpr byte) (0x0A0 + byte.toNat)) ∧
  (∀ byte : BitVec 4, AccessRule (.accEoi byte) (0x0B0 + byte.toNat)) ∧
  (∀ byte : BitVec 4, AccessRule (.accLdr byte) (0x0D0 + byte.toNat)) ∧
  (∀ byte : BitVec 4, AccessRule (.accDfr byte) (0x0E0 + byte.toNat)) ∧
  (∀ byte : BitVec 4, AccessRule (.accSvr byte) (0x0F0 + byte.toNat)) ∧
  (∀ byte : BitVec 4, AccessRule (.accEsr byte) (0x280 + byte.toNat)) ∧
  (∀ byte : BitVec 4, AccessRule (.accIcrl byte) (0x300 + byte.toNat)) ∧
  (∀ byte : BitVec 4, AccessRule (.accIcrh byte) (0x310 + byte.toNat)) ∧
  (∀ byte : BitVec 4, AccessRule (.accLvtt byte) (0x320 + byte.toNat)) ∧
  (∀ byte : BitVec 4, AccessRule (.accLvtth byte) (0x330 + byte.toNat)) ∧
  (∀ byte : BitVec 4, AccessRule (.accLvtpc byte) (0x340 + byte.toNat)) ∧
  (∀ byte : BitVec 4, AccessRule (.accLvtl0 byte) (0x350 + byte.toNat)) ∧
  (∀ byte : BitVec 4, AccessRule (.accLvtl1 byte) (0x360 + byte.toNat)) ∧
  (∀ byte : BitVec 4, AccessRule (.accLvterr byte) (0x370 + byte.toNat)) ∧
  (∀ byte : BitVec 4, AccessRule (.accTicr byte) (0x380 + byte.toNat)) ∧
  (∀ byte : BitVec 4, AccessRule (.accTccr byte) (0x390 + byte.toNat)) ∧
  (∀ byte : BitVec 4, AccessRule (.accTdcr byte) (0x3E0 + byte.toNat))

/-- For each element of the three bitmap arrays, at every byte offset of the row: a read of n bytes inside the block
completes and returns them, a write completes and stores its bytes and no other, and an access that is not
inside the block is refused. That a row of the table stands for the transaction at its offset is the model's
reading (log 5). -/
def Obligations.ArrayEntryTransactions : Prop :=
  (∀ (k : BitVec 3) (byte : BitVec 4), AccessRule (.accIsr k byte) (0x100 + 16 * k.toNat + byte.toNat)) ∧
  (∀ (k : BitVec 3) (byte : BitVec 4), AccessRule (.accTmr k byte) (0x180 + 16 * k.toNat + byte.toNat)) ∧
  (∀ (k : BitVec 3) (byte : BitVec 4), AccessRule (.accIrr k byte) (0x200 + 16 * k.toNat + byte.toNat))

/-- For each row of the six reserved regions, at every byte offset of the row: a read of n bytes inside the block
completes and returns them, a write completes and stores its bytes and no other, and an access that is not
inside the block is refused. That a row of the table stands for the transaction at its offset is the model's
reading (log 5). -/
def Obligations.ReservedRegionTransactions : Prop :=
  (∀ off : BitVec 5, AccessRule (.accRsv0 off) (0x000 + off.toNat)) ∧
  (∀ off : BitVec 6, AccessRule (.accRsv1 off) (0x040 + off.toNat)) ∧
  (∀ off : BitVec 4, AccessRule (.accRsv2 off) (0x0C0 + off.toNat)) ∧
  (∀ off : BitVec 4, AccessRule (.accRsv3Slot41 off) (0x290 + off.toNat)) ∧
  (∀ off : BitVec 5, AccessRule (.accRsv3Slots42To43 off) (0x2A0 + off.toNat)) ∧
  (∀ off : BitVec 6, AccessRule (.accRsv3Slots44To47 off) (0x2C0 + off.toNat)) ∧
  (∀ off : BitVec 5, AccessRule (.accRsv4Slots58To59 off) (0x3A0 + off.toNat)) ∧
  (∀ off : BitVec 5, AccessRule (.accRsv4Slots60To61 off) (0x3C0 + off.toNat)) ∧
  (∀ off : BitVec 4, AccessRule (.accRsv5 off) (0x3F0 + off.toNat))

/-- The operation map is total and unambiguous: every offset is held by exactly one of its match and mask rows. -/
def Obligations.EveryOffsetIsInExactlyOneRow : Prop :=
  ∀ a : BitVec 10, (operationMap.countP fun r => r.holds a) = 1

/-- For every offset the operation map gives an operation, and that operation reads, writes or is refused at exactly
that offset: the map's match and mask rows agree with the entry and region offsets. -/
def Obligations.RowsActAtTheirOffset : Prop :=
  ∀ (a : BitVec 10) (t : Access), ∃ i, blockInstr a t = some i ∧ AccessRule (fun u => (blockInstr a u).getD i) a.toNat

/-- R55: for each of the 18 types, its packed list of descriptors (lsb, width), its NAMED mask and its RSVD mask are
those of the table. The layouts of IdReg, VersionReg, IcrLowReg and LvtTimerReg are the document's and
Bitmask32Reg is derived from its words; the other thirteen are supplied by the spec's own decisions D8, D9 and
D17, taken as they give them (log 9, DEDUCED). -/
def Obligations.RegisterTypeMasks : Prop :=
  (RegType.idReg.named = 0x0F000000#128 ∧ RegType.idReg.fields.map (fun f => (f.lsb, f.width)) = [(24, 4)] ∧
    (~~~RegType.idReg.named).extractLsb' 0 32 = 0xF0FFFFFF#32) ∧
  (RegType.versionReg.named = 0x00FF00FF#128 ∧ RegType.versionReg.fields.map (fun f => (f.lsb, f.width)) = [(0, 8), (16, 8)] ∧
    (~~~RegType.versionReg.named).extractLsb' 0 32 = 0xFF00FF00#32) ∧
  (RegType.priorityReg.named = 0x000000FF#128 ∧ RegType.priorityReg.fields.map (fun f => (f.lsb, f.width)) = [(0, 4), (4, 4)] ∧
    (~~~RegType.priorityReg.named).extractLsb' 0 32 = 0xFFFFFF00#32) ∧
  (RegType.eoiReg.named = 0xFFFFFFFF#128 ∧ RegType.eoiReg.fields.map (fun f => (f.lsb, f.width)) = [(0, 32)] ∧
    (~~~RegType.eoiReg.named).extractLsb' 0 32 = 0x00000000#32) ∧
  (RegType.logicalDestReg.named = 0xFF000000#128 ∧ RegType.logicalDestReg.fields.map (fun f => (f.lsb, f.width)) = [(24, 8)] ∧
    (~~~RegType.logicalDestReg.named).extractLsb' 0 32 = 0x00FFFFFF#32) ∧
  (RegType.destFormatReg.named = 0xF0000000#128 ∧ RegType.destFormatReg.fields.map (fun f => (f.lsb, f.width)) = [(28, 4)] ∧
    (~~~RegType.destFormatReg.named).extractLsb' 0 32 = 0x0FFFFFFF#32) ∧
  (RegType.spuriousReg.named = 0x000013FF#128 ∧ RegType.spuriousReg.fields.map (fun f => (f.lsb, f.width)) = [(0, 8), (8, 1), (9, 1), (12, 1)] ∧
    (~~~RegType.spuriousReg.named).extractLsb' 0 32 = 0xFFFFEC00#32) ∧
  (RegType.bitmask32Reg.named = 0xFFFFFFFF#128 ∧ RegType.bitmask32Reg.fields.map (fun f => (f.lsb, f.width)) = [(0, 32)] ∧
    (~~~RegType.bitmask32Reg.named).extractLsb' 0 32 = 0x00000000#32) ∧
  (RegType.errorStatusReg.named = 0x000000FF#128 ∧ RegType.errorStatusReg.fields.map (fun f => (f.lsb, f.width)) = [(0, 1), (1, 1), (2, 1), (3, 1), (4, 1), (5, 1), (6, 1), (7, 1)] ∧
    (~~~RegType.errorStatusReg.named).extractLsb' 0 32 = 0xFFFFFF00#32) ∧
  (RegType.icrLowReg.named = 0x000CDFFF#128 ∧ RegType.icrLowReg.fields.map (fun f => (f.lsb, f.width)) = [(0, 8), (8, 3), (11, 1), (12, 1), (14, 1), (15, 1), (18, 2)] ∧
    (~~~RegType.icrLowReg.named).extractLsb' 0 32 = 0xFFF32000#32) ∧
  (RegType.icrHighReg.named = 0xFF000000#128 ∧ RegType.icrHighReg.fields.map (fun f => (f.lsb, f.width)) = [(24, 8)] ∧
    (~~~RegType.icrHighReg.named).extractLsb' 0 32 = 0x00FFFFFF#32) ∧
  (RegType.lvtTimerReg.named = 0x000310FF#128 ∧ RegType.lvtTimerReg.fields.map (fun f => (f.lsb, f.width)) = [(0, 8), (12, 1), (16, 1), (17, 1)] ∧
    (~~~RegType.lvtTimerReg.named).extractLsb' 0 32 = 0xFFFCEF00#32) ∧
  (RegType.lvtThermalReg.named = 0x000117FF#128 ∧ RegType.lvtThermalReg.fields.map (fun f => (f.lsb, f.width)) = [(0, 8), (8, 3), (12, 1), (16, 1)] ∧
    (~~~RegType.lvtThermalReg.named).extractLsb' 0 32 = 0xFFFEE800#32) ∧
  (RegType.lvtPerfReg.named = 0x000117FF#128 ∧ RegType.lvtPerfReg.fields.map (fun f => (f.lsb, f.width)) = [(0, 8), (8, 3), (12, 1), (16, 1)] ∧
    (~~~RegType.lvtPerfReg.named).extractLsb' 0 32 = 0xFFFEE800#32) ∧
  (RegType.lvtLintReg.named = 0x0001F7FF#128 ∧ RegType.lvtLintReg.fields.map (fun f => (f.lsb, f.width)) = [(0, 8), (8, 3), (12, 1), (13, 1), (14, 1), (15, 1), (16, 1)] ∧
    (~~~RegType.lvtLintReg.named).extractLsb' 0 32 = 0xFFFE0800#32) ∧
  (RegType.lvtErrorReg.named = 0x000110FF#128 ∧ RegType.lvtErrorReg.fields.map (fun f => (f.lsb, f.width)) = [(0, 8), (12, 1), (16, 1)] ∧
    (~~~RegType.lvtErrorReg.named).extractLsb' 0 32 = 0xFFFEEF00#32) ∧
  (RegType.timerCountReg.named = 0xFFFFFFFF#128 ∧ RegType.timerCountReg.fields.map (fun f => (f.lsb, f.width)) = [(0, 32)] ∧
    (~~~RegType.timerCountReg.named).extractLsb' 0 32 = 0x00000000#32) ∧
  (RegType.timerDivideReg.named = 0x0000000B#128 ∧ RegType.timerDivideReg.fields.map (fun f => (f.lsb, f.width)) = [(0, 2), (3, 1)] ∧
    (~~~RegType.timerDivideReg.named).extractLsb' 0 32 = 0xFFFFFFF4#32)

/-- For every well-formed operation, all 159 constructors with every operand the encoding admits, decoding its bytes
followed by anything gives it back and leaves what follows. The byte form is the model's (log 1). -/
def Obligations.DecodeOfEncode : Prop :=
  ∀ (i : Instr) (rest : List Byte), i.wf = true → decode (encode i ++ rest) = .ok i rest

/-- Whatever the decoder accepts is the encoding of what it answers: no accepted bit is dropped and no operation has
a second byte form. The byte form is the model's (log 1). -/
def Obligations.EncodeOfDecode : Prop :=
  ∀ (bs rest : List Byte) (i : Instr), decode bs = .ok i rest → bs = encode i ++ rest

/-- Ill-formed text is refused by whatever reads it: every decoded operation has literals that fit, byte strings of
the right length and a field of its entry's type. -/
def Obligations.DecodedOperationsAreWellFormed : Prop :=
  ∀ (bs rest : List Byte) (i : Instr), decode bs = .ok i rest → i.wf = true

/-- Four operations written out bit by bit: `R 0x020 4`, `W 0x380 1 AB`, `R 0x135 1` and `SETF ID.id, 3`. -/
def Obligations.SampleWordsDecode : Prop :=
  decode [0x20#8, 0x00#8, 0x03#8, 0x00#8] = .ok (.accId 0#4 (.read 4)) [] ∧
  decode [0x80#8, 0x03#8, 0x00#8, 0x04#8, 0xAB#8] = .ok (.accTicr 0#4 (.write [0xAB#8])) [] ∧
  decode [0x35#8, 0x01#8, 0x00#8, 0x00#8] = .ok (.accIsr 3#3 5#4 (.read 1)) [] ∧
  decode [0x11#8, 0x04#8, 0x02#8, 0x00#8, 0x00#8, 0x00#8, 0x03#8, 0x00#8, 0x00#8, 0x00#8] = .ok (.setf .id .idRegId 3#32) []

/-- When the bytes at the port decode to operation i and leave rest, one step is exec of i at the state whose port
is rest; everything else of the state is as it was. The port is the model's (log 2). -/
def Obligations.StepRunsTheDecodedOperation : Prop :=
  ∀ (s : State) (i : Instr) (rest : List Byte), decode s.port = .ok i rest →
    step s = exec i { s with port := rest }

/-- With no operation at the port a step leaves the whole state as it is: nothing inside the block ever changes a
byte, nothing counts (R26). Bytes that decode to nothing are refused by the reason's name. The port and the
refusal are the model's (logs 2, 6). -/
def Obligations.StepWithoutAnOperation : Prop :=
  ∀ s : State,
    (s.port = [] → step s = .next s) ∧
    ∀ why, s.port ≠ [] → decode s.port = .bad why → step s = .refused (.undecodable why)

/-- For every finite list of well-formed operations and every state, as many steps of the machine as there are
operations, with their bytes laid end to end at the port, give exactly what performing the operations one after
another gives, up to and including the first refusal. The byte form and the port are the model's (logs 1, 2,
DESIGN CHOICE). -/
def Obligations.RunPerformsTheHostsOperationsInOrder : Prop :=
  ∀ (ops : List Instr) (s : State), (∀ i ∈ ops, i.wf = true) →
    match execAll ops { s with port := [] } with
    | .next t => core.run ops.length { s with port := ops.flatMap encode } = .next t
    | .fault r => core.run ops.length { s with port := ops.flatMap encode } = .fault r
    | .refused r => core.run ops.length { s with port := ops.flatMap encode } = .refused r

/-- For all 159 operations: if the operation completes, the block's bytes afterwards are what its expansion into
transaction records (the table of R180, written out independently of the meanings) makes of them, applied in
order. That a row of the operation map is the record at its offset is the model's reading (log 5, DEDUCED). -/
def Obligations.EffectsAreThoseOfTheTransactionRecords : Prop :=
  ∀ (i : Instr) (s t : State), exec i s = .next t → t.mem = (transactions i s).foldl Txn.apply s.mem

/-- No value is rejected: a well-formed operation has a next state whenever its accesses lie in the block, and
otherwise it is refused with the offset and count that do not. -/
def Obligations.CompletesExactlyInsideTheDomain : Prop :=
  ∀ (i : Instr) (s : State), i.wf = true →
    (InDomain i s → ∃ t, exec i s = .next t) ∧
    (¬ InDomain i s → ∃ addr n, exec i s = .refused (.outsideBlock addr n) ∧ ¬ (1 ≤ n ∧ addr + n ≤ 1024))

/-- R200: there is no exception cause, and no step of the machine ends in a fault. -/
def Obligations.NoStepFaults : Prop :=
  (∀ (s : State) (r : Fault), step s ≠ .fault r) ∧ ¬ ∃ _ : Fault, True

/-- R28: reset is clean; a field set and the default construction keep a clean block clean; if any operation makes a
clean block unclean, one of its records writes a non-zero reserved bit. -/
def Obligations.AccessorsKeepTheBlockClean : Prop :=
  Clean State.reset ∧
  (∀ (s t : State) (e : Entry) (f : Field) (v : RegWord), CanonicalMem s → Clean s → exec (.setf e f v) s = .next t → Clean t) ∧
  (∀ s t : State, CanonicalMem s → exec .rfDefault s = .next t → Clean t) ∧
  ∀ (s t : State) (i : Instr), CanonicalMem s → Clean s → exec i s = .next t → ¬ Clean t →
    ∃ x ∈ transactions i s, ¬ x.ZeroReserved

/-- An invariant of every step: from a clean block with canonical memory, if the operation at the port writes zero
to every reserved bit its raw writes cover (R225), the block is clean after the step, whichever of the 159
operations it is. -/
def Obligations.HostRespectingReservedBitsKeepsTheBlockClean : Prop :=
  ∀ (s t : State), CanonicalMem s → Clean s →
    (∀ (i : Instr) (rest : List Byte), decode s.port = .ok i rest → RespectsReserved i { s with port := rest }) →
    step s = .next t → Clean t

/-- A getter never includes a reserved or padding bit in its result, nor anything of another slot: blocks that agree
on the named bits of the entry's slot give the same result. -/
def Obligations.GettersDoNotSeeReservedBits : Prop :=
  ∀ (s t : State) (e : Entry) (f : Field), f.regType = e.regType →
    s.mem.slotAt e.offset &&& e.regType.named = t.mem.slotAt e.offset &&& e.regType.named →
    ∃ r, Returns (exec (.getf e f) s) s r ∧ Returns (exec (.getf e f) t) t r

/-- The model's choice (log 4): the host holds the slot value it received last; an operation that returns no slot
value leaves the held value, `RF_DEFAULT` and every write to the block among them, and `SET` replaces it. -/
def Obligations.HeldValueIsTheLastSlotReceived : Prop :=
  ∀ (i : Instr) (s t : State), exec i s = .next t →
    (∃ v, t.results = s.results ++ [.slot v] ∧ t.held = v ∧ t.mem = s.mem) ∨
    ((∀ v, t.results ≠ s.results ++ [.slot v]) ∧ t.held = s.held) ∨
    (∃ f v, i = .opSet f v ∧ t.results = s.results ∧ t.mem = s.mem)

/-- A launch over at least 1024 bytes from a base that is a multiple of 16 starts from reset; any other is refused;
BASE is a multiple of 16, so every slot is 16-byte and every register word 4-byte aligned in absolute addresses.
The premises, the refusal and the alignments are R34's; that every run starts from the reset state is R220's;
that the launch is a definition beside the step, and that BASE is 16 times an opaque constant tied to no
launch's base, are the model's (log 8, DESIGN CHOICE). -/
def Obligations.LaunchNeedsAWholeAlignedMapping : Prop :=
  (∀ m : Mapping, m.base % 16 = 0 → 1024 ≤ m.extent → launch m = .next State.reset) ∧
  (∀ m : Mapping, ¬ (m.base % 16 = 0 ∧ 1024 ≤ m.extent) → ∃ r, launch m = .refused r) ∧
  Config.base % 16 = 0 ∧
  ∀ i, i < 64 → Config.absAddr (16 * i) % 16 = 0 ∧ Config.absAddr (16 * i) % 4 = 0

/-- The container of a getter's result is the smallest of 8, 16, 32 bits that covers the width, and the result is
zero-extended in it. -/
def Obligations.ContainerBitsAboveTheFieldAreZero : Prop :=
  ∀ (f : Field) (x : Slot),
    (inContainer (getField f x)).toNat = (getField f x).toNat ∧
    (containerBits f.width = 8 ∨ containerBits f.width = 16 ∨ containerBits f.width = 32) ∧
    f.width ≤ containerBits f.width ∧
    (f.width ≤ 8 → containerBits f.width = 8) ∧ (8 < f.width → f.width ≤ 16 → containerBits f.width = 16)

/-- For all 159 operations: a completed operation leaves the pending operations as they are and only adds at most
one value to the results (port and results are the model's, logs 2, 3). -/
def Obligations.OperationsLeaveThePortAlone : Prop :=
  ∀ (i : Instr) (s t : State), exec i s = .next t →
    t.port = s.port ∧ (t.results = s.results ∨ ∃ r, t.results = s.results ++ [r])
end

