-- ==== Sys2Proof/Laws/Bytes.lean ====
section
/-! SUPPORT. The little-endian conversions, bit by bit (20_memory.md R31). -/

namespace Sys2Proof.Machine

@[simp] theorem bytesOf_length {w : Nat} (n : Nat) (v : BitVec w) : (bytesOf n v).length = n := by simp [bytesOf]

@[simp] theorem slotBytes_length (v : Slot) : (slotBytes v).length = 16 := bytesOf_length 16 v

@[simp] theorem wordBytes_length (v : RegWord) : (wordBytes v).length = 4 := bytesOf_length 4 v

/-- Byte `k` of a value is its bits `8k+7` down to `8k` (40_value_ops.md R81). -/
theorem bytesOf_getD {w : Nat} (n : Nat) (v : BitVec w) (k : Nat) (hk : k < n) :
    (bytesOf n v).getD k 0#8 = v.extractLsb' (8 * k) 8 := by
  simp [bytesOf, List.getD, hk]

/-- Bit `i` of the assembled value is bit `i mod 8` of byte `i / 8` (R82). -/
theorem ofBytes_getLsbD (w : Nat) (bs : List Byte) (i : Nat) :
    (ofBytes w bs).getLsbD i = (decide (i < w) && (bs.getD (i / 8) 0#8).getLsbD (i % 8)) := by
  induction bs generalizing i with
  | nil => simp [ofBytes]
  | cons b bs ih =>
    simp only [ofBytes, BitVec.getLsbD_or, BitVec.getLsbD_setWidth, BitVec.getLsbD_shiftLeft, ih]
    by_cases h : i < 8
    · have h1 : i / 8 = 0 := by omega
      have h2 : i % 8 = i := by omega
      simp [h, h1, h2]
    · obtain ⟨j, rfl⟩ : ∃ j, i = j + 8 := ⟨i - 8, by omega⟩
      have h1 : (j + 8) / 8 = j / 8 + 1 := by omega
      have h2 : (j + 8) % 8 = j % 8 := by omega
      by_cases hw : j + 8 < w
      · have hj : j < w := by omega
        simp [h1, h2, hw, hj]
      · simp [hw]

end Sys2Proof.Machine
end

