-- ==== Sys2Proof/Laws/Decode.lean ====
section
/-! SUPPORT. The decoder's pieces: taking bytes from the port, and the numbers of fields, types and entries. -/

namespace Sys2Proof

/-- A byte string in front is taken whole. -/
theorem takeBytes_append (d rest : List Byte) : takeBytes d.length (d ++ rest) = some (d, rest) := by
  induction d with
  | nil => rfl
  | cons b d ih => simp [takeBytes, ih]

/-- What is taken is a prefix of the asked length, and the rest is what follows it. -/
theorem takeBytes_some {n : Nat} {bs d rest : List Byte} (h : takeBytes n bs = some (d, rest)) :
    bs = d ++ rest ∧ d.length = n := by
  induction n generalizing bs d with
  | zero => simp only [takeBytes, Option.some.injEq, Prod.mk.injEq] at h; obtain ⟨rfl, rfl⟩ := h; exact ⟨rfl, rfl⟩
  | succ n ih =>
    cases bs with
    | nil => cases h
    | cons b bs =>
      simp only [takeBytes, Option.map_eq_some_iff, Prod.mk.injEq] at h
      obtain ⟨⟨d', r'⟩, h1, rfl, rfl⟩ := h
      obtain ⟨rfl, rfl⟩ := ih h1
      exact ⟨rfl, rfl⟩

/-- A value taken is that of a prefix of `n` bytes. -/
theorem takeVal_some {w n : Nat} {bs rest : List Byte} {v : BitVec w} (h : takeVal w n bs = some (v, rest)) :
    ∃ d, bs = d ++ rest ∧ d.length = n ∧ v = Machine.ofBytes w d := by
  simp only [takeVal, Option.map_eq_some_iff, Prod.mk.injEq] at h
  obtain ⟨⟨d, r⟩, h1, rfl, rfl⟩ := h
  obtain ⟨rfl, h2⟩ := takeBytes_some h1
  exact ⟨d, rfl, h2, rfl⟩

/-- A value's own bytes in front are taken whole. -/
theorem takeVal_bytesOf {w n : Nat} (h : w = 8 * n) (v : BitVec w) (rest : List Byte) :
    takeVal w n (Machine.bytesOf n v ++ rest) = some (v, rest) := by
  subst h
  have ht := takeBytes_append (Machine.bytesOf n v) rest
  rw [Machine.bytesOf_length] at ht
  rw [takeVal, ht, Option.map_some, Option.some.injEq, Prod.mk.injEq]
  refine ⟨BitVec.eq_of_getLsbD_eq fun i hi => ?_, rfl⟩
  rw [Machine.ofBytes_getLsbD, Machine.bytesOf_getD _ _ _ (by omega), BitVec.getLsbD_extractLsb']
  simp [hi, show 8 * (i / 8) + i % 8 = i by omega, show i % 8 < 8 by omega]

@[simp] theorem encWord_length (n : Nat) : (encWord n).length = 2 := by simp [encWord]

@[simp] theorem encHead_length (cls payload : Nat) : (encHead cls payload).length = 2 := by simp [encHead]

/-- A field is the one its number names, and no other number names it. -/
theorem field_all_code (f : Field) : Field.all[f.code]? = some f := by cases f <;> rfl

theorem field_code_lt (f : Field) : f.code < 54 := by cases f <;> decide

theorem regType_all_code (t : RegType) : RegType.all[t.code]? = some t := by cases t <;> rfl

theorem regType_code_lt (t : RegType) : t.code < 18 := by cases t <;> decide

/-- An entry is the one its slot index names (43_regfile_ops.md R182). -/
theorem entry_ofSlot_slot (e : Entry) : Entry.ofSlot e.slot = some e := by
  cases e <;> first | rfl | (rename_i k; revert k; decide)

theorem entry_slot_lt (e : Entry) : e.slot < 64 := by
  cases e <;> first | decide | (rename_i k; revert k; decide)

end Sys2Proof
end

