-- ==== Sys2Proof/Laws/Memory.lean ====
section
/-! SUPPORT. The laws of the block's byte list: what a read sees after a write, and that every operation keeps the
canonical form. -/

namespace Sys2Proof.Machine

@[simp] theorem Memory.read_nil (a : Nat) : Memory.read [] a = 0x00#8 := rfl

theorem Memory.read_cons (x : Nat) (b : Byte) (m : Memory) (a : Nat) :
    Memory.read ((x, b) :: m) a = if x = a then b else Memory.read m a := rfl

/-- A byte below every listed offset reads as the unlisted byte. -/
theorem Memory.read_of_lt {lo : Nat} {m : Memory} (h : Memory.wfFrom lo m = true) {a : Nat} (ha : a < lo) :
    m.read a = 0x00#8 := by
  induction m generalizing lo with
  | nil => rfl
  | cons c m ih =>
    obtain ⟨x, b⟩ := c
    simp only [Memory.wfFrom, Bool.and_eq_true, decide_eq_true_eq] at h
    rw [Memory.read_cons, if_neg (by omega)]
    exact ih h.2 (by omega)

/-- A lower bound may be lowered. -/
theorem Memory.wfFrom_mono {lo lo' : Nat} (hl : lo' ≤ lo) {m : Memory} (h : Memory.wfFrom lo m = true) :
    Memory.wfFrom lo' m = true := by
  cases m with
  | nil => rfl
  | cons c m =>
    obtain ⟨x, b⟩ := c
    simp only [Memory.wfFrom, Bool.and_eq_true, decide_eq_true_eq] at h ⊢
    exact ⟨⟨⟨by omega, h.1.1.2⟩, h.1.2⟩, h.2⟩

/-- Setting a byte of the block keeps the canonical form. -/
theorem Memory.wfFrom_set {lo a : Nat} {b : Byte} {m : Memory} (h : Memory.wfFrom lo m = true) (hl : lo ≤ a)
    (ha : a < Config.rfBytes) : Memory.wfFrom lo (m.set a b) = true := by
  induction m generalizing lo with
  | nil =>
    unfold Memory.set
    split <;> simp_all [Memory.wfFrom]
  | cons c m ih =>
    obtain ⟨x, d⟩ := c
    have h' := h
    simp only [Memory.wfFrom, Bool.and_eq_true, decide_eq_true_eq] at h
    unfold Memory.set
    split
    · split
      · exact h'
      · simp only [Memory.wfFrom, Bool.and_eq_true, decide_eq_true_eq, bne_iff_ne]
        exact ⟨⟨⟨hl, ha⟩, ‹_›⟩, ⟨⟨⟨by omega, h.1.1.2⟩, by simpa using h.1.2⟩, h.2⟩⟩
    · split
      · subst_vars
        split
        · exact Memory.wfFrom_mono (by omega) h.2
        · simp only [Memory.wfFrom, Bool.and_eq_true, decide_eq_true_eq, bne_iff_ne]
          exact ⟨⟨⟨hl, ha⟩, ‹_›⟩, h.2⟩
      · simp only [Memory.wfFrom, Bool.and_eq_true, decide_eq_true_eq]
        exact ⟨⟨⟨h.1.1.1, h.1.1.2⟩, h.1.2⟩, ih h.2 (by omega)⟩

theorem Memory.wf_set {a : Nat} {b : Byte} {m : Memory} (h : m.wf = true) (ha : a < Config.rfBytes) :
    (m.set a b).wf = true := Memory.wfFrom_set h (Nat.zero_le _) ha

/-- Writing bytes of the block keeps the canonical form. -/
theorem Memory.wf_write {a : Nat} {bs : List Byte} {m : Memory} (h : m.wf = true) (ha : a + bs.length ≤ Config.rfBytes) :
    (m.write a bs).wf = true := by
  induction bs generalizing a m with
  | nil => exact h
  | cons b bs ih =>
    simp only [List.length_cons] at ha
    exact ih (Memory.wf_set h (by omega)) (by omega)

@[simp] theorem Memory.wf_nil : Memory.wf [] = true := rfl

theorem State.reset_wf : State.reset.mem.wf = true := rfl

/-- In the canonical form, a read after setting a byte sees that byte there and the old ones elsewhere. -/
theorem Memory.read_set {lo : Nat} {m : Memory} (h : Memory.wfFrom lo m = true) (a : Nat) (b : Byte) (c : Nat) :
    (m.set a b).read c = if c = a then b else m.read c := by
  induction m generalizing lo with
  | nil =>
    unfold Memory.set
    split
    · simp_all [unlistedByte]
    · simp only [Memory.read_cons, Memory.read_nil, eq_comm]
  | cons d m ih =>
    obtain ⟨x, e⟩ := d
    have hm := h
    simp only [Memory.wfFrom, Bool.and_eq_true, decide_eq_true_eq] at hm
    unfold Memory.set
    split
    · have low : Memory.read ((x, e) :: m) a = 0x00#8 := by
        rw [Memory.read_cons, if_neg (by omega)]
        exact Memory.read_of_lt hm.2 (by omega)
      split
      · split
        · subst_vars; rw [low]; rfl
        · rfl
      · rw [Memory.read_cons]
        simp only [eq_comm]
    · split
      · subst_vars
        have low : Memory.read m x = 0x00#8 := Memory.read_of_lt hm.2 (by omega)
        split
        · split
          · subst_vars; rw [low]; rfl
          · rw [Memory.read_cons, if_neg (by omega)]
        · simp only [Memory.read_cons, eq_comm]
          split <;> rfl
      · simp only [Memory.read_cons]
        rw [ih hm.2]
        split
        · rw [if_neg (by omega)]
        · rfl

/-- `MemWrite` (20_memory.md R37): the bytes written are read back, every other byte is as before. -/
theorem Memory.read_write {m : Memory} (h : m.wf = true) {a : Nat} {bs : List Byte} (ha : a + bs.length ≤ Config.rfBytes)
    (c : Nat) : (m.write a bs).read c = if a ≤ c ∧ c < a + bs.length then bs.getD (c - a) 0#8 else m.read c := by
  induction bs generalizing a m with
  | nil => rw [if_neg (by simp only [List.length_nil]; omega)]; rfl
  | cons b bs ih =>
    simp only [List.length_cons] at ha
    rw [Memory.write, ih (Memory.wf_set h (by omega)) (by omega), Memory.read_set h]
    simp only [List.length_cons]
    by_cases hc : c = a
    · subst hc
      rw [if_neg (by omega), if_pos rfl, if_pos (by omega)]
      simp
    · by_cases h1 : a + 1 ≤ c ∧ c < a + 1 + bs.length
      · rw [if_pos h1, if_pos (by omega), show c - a = (c - (a + 1)) + 1 by omega]
        simp
      · rw [if_neg h1, if_neg hc, if_neg (by omega)]

@[simp] theorem Memory.bytesAt_length (m : Memory) (a n : Nat) : (m.bytesAt a n).length = n := by
  simp [Memory.bytesAt]

theorem Memory.bytesAt_getD (m : Memory) (a n k : Nat) (hk : k < n) : (m.bytesAt a n).getD k 0#8 = m.read (a + k) := by
  simp [Memory.bytesAt, List.getD, hk]

/-- `MemRead` (20_memory.md R37): byte `k` of the value is `M[addr + k]`. -/
theorem Memory.valAt_byte (m : Memory) (a n k : Nat) (hk : k < n) :
    (m.valAt a n).extractLsb' (8 * k) 8 = m.read (a + k) := by
  apply BitVec.eq_of_getLsbD_eq
  intro i hi
  have h1 : (8 * k + i) / 8 = k := by omega
  have h2 : (8 * k + i) % 8 = i := by omega
  have h3 : 8 * k + i < 8 * n := by omega
  rw [BitVec.getLsbD_extractLsb', Memory.valAt, ofBytes_getLsbD, h1, h2, Memory.bytesAt_getD _ _ _ _ hk]
  simp [hi, h3]

end Sys2Proof.Machine
end

