-- ==== Sys2Proof/Laws/State.lean ====
section
/-! SUPPORT. One lemma per field per update of the state. -/

namespace Sys2Proof.Machine

section
variable (s : State) (r : Result) (v : Slot) (a : Nat) (bs rest : List Byte)

@[simp] theorem State.ret_mem : (s.ret r).mem = s.mem := rfl
@[simp] theorem State.ret_port : (s.ret r).port = s.port := rfl
@[simp] theorem State.ret_results : (s.ret r).results = s.results ++ [r] := rfl
@[simp] theorem State.ret_held : (s.ret r).held = s.held := rfl

@[simp] theorem State.give_mem : (s.give v).mem = s.mem := rfl
@[simp] theorem State.give_port : (s.give v).port = s.port := rfl
@[simp] theorem State.give_results : (s.give v).results = s.results ++ [.slot v] := rfl
@[simp] theorem State.give_held : (s.give v).held = v := rfl

@[simp] theorem State.store_mem : (s.store a bs).mem = s.mem.write a bs := rfl
@[simp] theorem State.store_port : (s.store a bs).port = s.port := rfl
@[simp] theorem State.store_results : (s.store a bs).results = s.results := rfl
@[simp] theorem State.store_held : (s.store a bs).held = s.held := rfl

@[simp] theorem State.advance_mem : (s.advance rest).mem = s.mem := rfl
@[simp] theorem State.advance_port : (s.advance rest).port = rest := rfl
@[simp] theorem State.advance_results : (s.advance rest).results = s.results := rfl
@[simp] theorem State.advance_held : (s.advance rest).held = s.held := rfl

@[simp] theorem State.reset_mem : State.reset.mem = [] := rfl
@[simp] theorem State.reset_port : State.reset.port = [] := rfl
@[simp] theorem State.reset_results : State.reset.results = [] := rfl
@[simp] theorem State.reset_held : State.reset.held = 0#128 := rfl
end

end Sys2Proof.Machine
end

