-- ==== Sys2Proof/Laws/Ops.lean ====
section
/-! SUPPORT. What each shared operation can do, said once. -/

namespace Sys2Proof.Machine

theorem inBlock_iff (a n : Nat) : inBlock a n = true ↔ 1 ≤ n ∧ a + n ≤ 1024 := by
  unfold inBlock Config.rfBytes
  rw [Bool.and_eq_true, decide_eq_true_eq, decide_eq_true_eq]

/-- Everything a transaction can do: outside the block it is refused; inside, a read returns the bytes and a write
replaces them (20_memory.md R37, 60_exceptions.md R203). -/
theorem txn_cases (a : Nat) (t : Access) (s : State) :
    (inBlock a t.size = false ∧ txn a t s = .refused (.outsideBlock a t.size)) ∨
    (∃ n, t = .read n ∧ inBlock a n = true ∧ txn a t s = .next (s.ret (.raw n (s.mem.valAt a n)))) ∨
    (∃ d, t = .write d ∧ inBlock a d.length = true ∧ txn a t s = .next (s.store a d)) := by
  by_cases h : inBlock a t.size = true
  · cases t with
    | read n => exact .inr (.inl ⟨n, rfl, h, by simp [txn, h]⟩)
    | write d => exact .inr (.inr ⟨d, rfl, h, by simp [txn, h]⟩)
  · exact .inl ⟨by simpa using h, by simp [txn, h]⟩

/-- If a transaction answers next, its bytes are in the block, the port and the held value stay, and memory is as
the record says. -/
theorem txn_next {a : Nat} {t : Access} {s s' : State} (h : txn a t s = .next s') :
    inBlock a t.size = true ∧ s'.port = s.port ∧ s'.held = s.held ∧
    ((∃ n, t = .read n ∧ s' = s.ret (.raw n (s.mem.valAt a n))) ∨ (∃ d, t = .write d ∧ s' = s.store a d)) := by
  rcases txn_cases a t s with ⟨-, e⟩ | ⟨n, rfl, hb, e⟩ | ⟨d, rfl, hb, e⟩ <;> rw [e] at h
  · cases h
  · cases h; exact ⟨hb, rfl, rfl, .inl ⟨n, rfl, rfl⟩⟩
  · cases h; exact ⟨hb, rfl, rfl, .inr ⟨d, rfl, rfl⟩⟩

theorem getValue_eq (f : Field) (x : Slot) (s : State) :
    getValue f x s = .next (s.ret (.field f.width (getField f x))) := rfl

theorem withValue_eq (f : Field) (x : Slot) (v : RegWord) (s : State) :
    withValue f x v s = .next (s.give (withField f x v)) := rfl

/-- Bit `i` of a getter's result (40_value_ops.md R78). -/
theorem getBits_getLsbD (lsb w : Nat) (x : Slot) (i : Nat) :
    (getBits lsb w x).getLsbD i = (decide (i < w) && x.getLsbD (lsb + i)) := by
  simp [getBits]

/-- Bit `i` of a setter's result: of the operand inside the field, of the old value outside (R79). -/
theorem withBits_getLsbD (lsb w : Nat) (x : Slot) (v : BitVec w) (i : Nat) (hw : lsb + w ≤ 128) :
    (withBits lsb w x v).getLsbD i = if lsb ≤ i ∧ i < lsb + w then v.getLsbD (i - lsb) else x.getLsbD i := by
  by_cases hi : i < 128
  · by_cases h1 : i < lsb
    · have : ¬ (lsb ≤ i ∧ i < lsb + w) := by omega
      simp [withBits, hi, h1, this]
    · by_cases h2 : i < lsb + w
      · have a1 : i - lsb < w := by omega
        have a3 : lsb ≤ i ∧ i < lsb + w := by omega
        simp [withBits, hi, h1, a1, a3]
      · have a1 : ¬ (i - lsb < w) := by omega
        have a3 : ¬ (lsb ≤ i ∧ i < lsb + w) := by omega
        have a4 : v.getLsbD (i - lsb) = false := BitVec.getLsbD_of_ge _ _ (by omega)
        simp [withBits, hi, h1, a1, a3, a4]
  · have : ¬ (lsb ≤ i ∧ i < lsb + w) := by omega
    rw [if_neg this, BitVec.getLsbD_of_ge _ _ (by omega), BitVec.getLsbD_of_ge _ _ (by omega)]

/-- "no named field reaches into the 96 padding bits" (00_scope.md R7). -/
theorem field_in_word (f : Field) : f.lsb + f.width ≤ 32 := by cases f <;> decide

/-- Bit `i` of what a setter of `f` makes of a slot value: of the operand inside the field, of the old value outside. -/
theorem withField_getLsbD (f : Field) (x : Slot) (v : RegWord) (i : Nat) :
    (withField f x v).getLsbD i =
      if f.lsb ≤ i ∧ i < f.lsb + f.width then v.getLsbD (i - f.lsb) else x.getLsbD i := by
  have hf := field_in_word f
  rw [withField, withBits_getLsbD _ _ _ _ _ (by omega)]
  split
  · rw [operand, BitVec.getLsbD_setWidth]
    simp [show i - f.lsb < f.width by omega]
  · rfl

theorem field_width_pos (f : Field) : 1 ≤ f.width := by cases f <;> decide

/-- An entry's slot lies in the block and is aligned (43_regfile_ops.md R182). -/
theorem entry_in_block (e : Entry) : e.offset + 16 ≤ 1024 := by
  cases e <;> simp [Entry.offset] <;> omega

theorem entry_aligned (e : Entry) : e.offset % 16 = 0 := by
  cases e <;> simp [Entry.offset]

/-- `GETF` answers next only on a field of the entry's type, and returns that field of the slot. -/
theorem getf_next {e : Entry} {f : Field} {s s' : State} (h : execGetf e f s = .next s') :
    f.isOf e = true ∧ s' = s.ret (.field f.width (getField f (s.mem.slotAt e.offset))) := by
  unfold execGetf at h
  split at h
  · cases h; exact ⟨‹_›, rfl⟩
  · cases h

/-- `SETF` answers next only on a field of the entry's type, and stores the slot with that field replaced. -/
theorem setf_next {e : Entry} {f : Field} {v : RegWord} {s s' : State} (h : execSetf e f v s = .next s') :
    f.isOf e = true ∧ s' = s.store e.offset (slotBytes (withField f (s.mem.slotAt e.offset) v)) := by
  unfold execSetf at h
  split at h
  · cases h; exact ⟨‹_›, rfl⟩
  · cases h

end Sys2Proof.Machine
end

