-- ==== Sys2Proof/Laws/PerInstr.lean ====
section
/-! SUPPORT. Facts proved instruction by instruction. Family `HeadWord`: the bytes of every operation begin with a head word of
one of the four classes and a payload of ten bits. -/

set_option Elab.async false

namespace Sys2Proof.Laws

/-- The encoding of `i` begins with a head word whose class is one of the four. -/
def HeadWord.Statement (i : Instr) : Prop :=
  ∃ cls payload, cls < 4 ∧ payload < 1024 ∧ ∃ rest, encode i = encHead cls payload ++ rest

/-- A transaction's head word carries its offset in class 0. -/
theorem headWord_txn (a : BitVec 10) (t : Access) :
    ∃ cls payload, cls < 4 ∧ payload < 1024 ∧ ∃ rest, encTxn a t = encHead cls payload ++ rest := by
  cases t with
  | read n => exact ⟨0, a.toNat, by decide, a.isLt, _, rfl⟩
  | write d => exact ⟨0, a.toNat, by decide, a.isLt, _, List.append_assoc ..⟩

theorem HeadWord.opDefault (t : RegType) : HeadWord.Statement (.opDefault t) := ⟨1, 0, by decide, by decide, _, rfl⟩
theorem HeadWord.opGet (f : Field) (x : Slot) : HeadWord.Statement (.opGet f x) := ⟨1, 1, by decide, by decide, _, by simp only [encode, List.append_assoc]; rfl⟩
theorem HeadWord.opWith (f : Field) (x : Slot) (v : RegWord) : HeadWord.Statement (.opWith f x v) := ⟨1, 2, by decide, by decide, _, by simp only [encode, List.append_assoc]; rfl⟩
theorem HeadWord.opSet (f : Field) (v : RegWord) : HeadWord.Statement (.opSet f v) := ⟨1, 3, by decide, by decide, _, by simp only [encode, List.append_assoc]; rfl⟩
theorem HeadWord.toBytes (x : Slot) : HeadWord.Statement (.toBytes x) := ⟨1, 4, by decide, by decide, _, rfl⟩
theorem HeadWord.fromBytes (b : List Byte) : HeadWord.Statement (.fromBytes b) := ⟨1, 5, by decide, by decide, _, rfl⟩
theorem HeadWord.opEq (x : Slot) (y : Slot) : HeadWord.Statement (.opEq x y) := ⟨1, 6, by decide, by decide, _, by simp only [encode, List.append_assoc]; rfl⟩
theorem HeadWord.rfDefault : HeadWord.Statement .rfDefault := ⟨1, 7, by decide, by decide, [], rfl⟩
theorem HeadWord.rfToBytes : HeadWord.Statement .rfToBytes := ⟨1, 8, by decide, by decide, [], rfl⟩
theorem HeadWord.rfFromBytes (b : List Byte) : HeadWord.Statement (.rfFromBytes b) := ⟨1, 9, by decide, by decide, _, rfl⟩
theorem HeadWord.rd (addr : BitVec 11) (n : BitVec 11) : HeadWord.Statement (.rd addr n) := ⟨1, 10, by decide, by decide, _, by simp only [encode, List.append_assoc]; rfl⟩
theorem HeadWord.wr (addr : BitVec 11) (data : List Byte) : HeadWord.Statement (.wr addr data) := ⟨1, 11, by decide, by decide, _, by simp only [encode, List.append_assoc]; rfl⟩
theorem HeadWord.rds (e : Entry) : HeadWord.Statement (.rds e) := ⟨1, 12, by decide, by decide, _, rfl⟩
theorem HeadWord.wrs (e : Entry) (v : Slot) : HeadWord.Statement (.wrs e v) := ⟨1, 13, by decide, by decide, _, by simp only [encode, List.append_assoc]; rfl⟩
theorem HeadWord.rdw (e : Entry) : HeadWord.Statement (.rdw e) := ⟨1, 14, by decide, by decide, _, rfl⟩
theorem HeadWord.wrw (e : Entry) (v : RegWord) : HeadWord.Statement (.wrw e v) := ⟨1, 15, by decide, by decide, _, by simp only [encode, List.append_assoc]; rfl⟩
theorem HeadWord.getf (e : Entry) (f : Field) : HeadWord.Statement (.getf e f) := ⟨1, 16, by decide, by decide, _, by simp only [encode, List.append_assoc]; rfl⟩
theorem HeadWord.setf (e : Entry) (f : Field) (v : RegWord) : HeadWord.Statement (.setf e f v) := ⟨1, 17, by decide, by decide, _, by simp only [encode, List.append_assoc]; rfl⟩
theorem HeadWord.accId (byte : BitVec 4) (t : Access) : HeadWord.Statement (.accId byte t) := headWord_txn _ t
theorem HeadWord.accVer (byte : BitVec 4) (t : Access) : HeadWord.Statement (.accVer byte t) := headWord_txn _ t
theorem HeadWord.accTpr (byte : BitVec 4) (t : Access) : HeadWord.Statement (.accTpr byte t) := headWord_txn _ t
theorem HeadWord.accApr (byte : BitVec 4) (t : Access) : HeadWord.Statement (.accApr byte t) := headWord_txn _ t
theorem HeadWord.accPpr (byte : BitVec 4) (t : Access) : HeadWord.Statement (.accPpr byte t) := headWord_txn _ t
theorem HeadWord.accEoi (byte : BitVec 4) (t : Access) : HeadWord.Statement (.accEoi byte t) := headWord_txn _ t
theorem HeadWord.accLdr (byte : BitVec 4) (t : Access) : HeadWord.Statement (.accLdr byte t) := headWord_txn _ t
theorem HeadWord.accDfr (byte : BitVec 4) (t : Access) : HeadWord.Statement (.accDfr byte t) := headWord_txn _ t
theorem HeadWord.accSvr (byte : BitVec 4) (t : Access) : HeadWord.Statement (.accSvr byte t) := headWord_txn _ t
theorem HeadWord.accIsr (k : BitVec 3) (byte : BitVec 4) (t : Access) : HeadWord.Statement (.accIsr k byte t) := headWord_txn _ t
theorem HeadWord.accTmr (k : BitVec 3) (byte : BitVec 4) (t : Access) : HeadWord.Statement (.accTmr k byte t) := headWord_txn _ t
theorem HeadWord.accIrr (k : BitVec 3) (byte : BitVec 4) (t : Access) : HeadWord.Statement (.accIrr k byte t) := headWord_txn _ t
theorem HeadWord.accEsr (byte : BitVec 4) (t : Access) : HeadWord.Statement (.accEsr byte t) := headWord_txn _ t
theorem HeadWord.accIcrl (byte : BitVec 4) (t : Access) : HeadWord.Statement (.accIcrl byte t) := headWord_txn _ t
theorem HeadWord.accIcrh (byte : BitVec 4) (t : Access) : HeadWord.Statement (.accIcrh byte t) := headWord_txn _ t
theorem HeadWord.accLvtt (byte : BitVec 4) (t : Access) : HeadWord.Statement (.accLvtt byte t) := headWord_txn _ t
theorem HeadWord.accLvtth (byte : BitVec 4) (t : Access) : HeadWord.Statement (.accLvtth byte t) := headWord_txn _ t
theorem HeadWord.accLvtpc (byte : BitVec 4) (t : Access) : HeadWord.Statement (.accLvtpc byte t) := headWord_txn _ t
theorem HeadWord.accLvtl0 (byte : BitVec 4) (t : Access) : HeadWord.Statement (.accLvtl0 byte t) := headWord_txn _ t
theorem HeadWord.accLvtl1 (byte : BitVec 4) (t : Access) : HeadWord.Statement (.accLvtl1 byte t) := headWord_txn _ t
theorem HeadWord.accLvterr (byte : BitVec 4) (t : Access) : HeadWord.Statement (.accLvterr byte t) := headWord_txn _ t
theorem HeadWord.accTicr (byte : BitVec 4) (t : Access) : HeadWord.Statement (.accTicr byte t) := headWord_txn _ t
theorem HeadWord.accTccr (byte : BitVec 4) (t : Access) : HeadWord.Statement (.accTccr byte t) := headWord_txn _ t
theorem HeadWord.accTdcr (byte : BitVec 4) (t : Access) : HeadWord.Statement (.accTdcr byte t) := headWord_txn _ t
theorem HeadWord.accRsv0 (off : BitVec 5) (t : Access) : HeadWord.Statement (.accRsv0 off t) := headWord_txn _ t
theorem HeadWord.accRsv1 (off : BitVec 6) (t : Access) : HeadWord.Statement (.accRsv1 off t) := headWord_txn _ t
theorem HeadWord.accRsv2 (off : BitVec 4) (t : Access) : HeadWord.Statement (.accRsv2 off t) := headWord_txn _ t
theorem HeadWord.accRsv3Slot41 (off : BitVec 4) (t : Access) : HeadWord.Statement (.accRsv3Slot41 off t) := headWord_txn _ t
theorem HeadWord.accRsv3Slots42To43 (off : BitVec 5) (t : Access) : HeadWord.Statement (.accRsv3Slots42To43 off t) := headWord_txn _ t
theorem HeadWord.accRsv3Slots44To47 (off : BitVec 6) (t : Access) : HeadWord.Statement (.accRsv3Slots44To47 off t) := headWord_txn _ t
theorem HeadWord.accRsv4Slots58To59 (off : BitVec 5) (t : Access) : HeadWord.Statement (.accRsv4Slots58To59 off t) := headWord_txn _ t
theorem HeadWord.accRsv4Slots60To61 (off : BitVec 5) (t : Access) : HeadWord.Statement (.accRsv4Slots60To61 off t) := headWord_txn _ t
theorem HeadWord.accRsv5 (off : BitVec 4) (t : Access) : HeadWord.Statement (.accRsv5 off t) := headWord_txn _ t
theorem HeadWord.getIdRegId (x : Slot) : HeadWord.Statement (.getIdRegId x) := ⟨2, _, by decide, by decide, _, rfl⟩
theorem HeadWord.withIdRegId (x : Slot) (v : RegWord) : HeadWord.Statement (.withIdRegId x v) := ⟨3, _, by decide, by decide, _, List.append_assoc ..⟩
theorem HeadWord.getVersionRegVersion (x : Slot) : HeadWord.Statement (.getVersionRegVersion x) := ⟨2, _, by decide, by decide, _, rfl⟩
theorem HeadWord.withVersionRegVersion (x : Slot) (v : RegWord) : HeadWord.Statement (.withVersionRegVersion x v) := ⟨3, _, by decide, by decide, _, List.append_assoc ..⟩
theorem HeadWord.getVersionRegMaxLvtEntry (x : Slot) : HeadWord.Statement (.getVersionRegMaxLvtEntry x) := ⟨2, _, by decide, by decide, _, rfl⟩
theorem HeadWord.withVersionRegMaxLvtEntry (x : Slot) (v : RegWord) : HeadWord.Statement (.withVersionRegMaxLvtEntry x v) := ⟨3, _, by decide, by decide, _, List.append_assoc ..⟩
theorem HeadWord.getPriorityRegSubclass (x : Slot) : HeadWord.Statement (.getPriorityRegSubclass x) := ⟨2, _, by decide, by decide, _, rfl⟩
theorem HeadWord.withPriorityRegSubclass (x : Slot) (v : RegWord) : HeadWord.Statement (.withPriorityRegSubclass x v) := ⟨3, _, by decide, by decide, _, List.append_assoc ..⟩
theorem HeadWord.getPriorityRegClass (x : Slot) : HeadWord.Statement (.getPriorityRegClass x) := ⟨2, _, by decide, by decide, _, rfl⟩
theorem HeadWord.withPriorityRegClass (x : Slot) (v : RegWord) : HeadWord.Statement (.withPriorityRegClass x v) := ⟨3, _, by decide, by decide, _, List.append_assoc ..⟩
theorem HeadWord.getEoiRegValue (x : Slot) : HeadWord.Statement (.getEoiRegValue x) := ⟨2, _, by decide, by decide, _, rfl⟩
theorem HeadWord.withEoiRegValue (x : Slot) (v : RegWord) : HeadWord.Statement (.withEoiRegValue x v) := ⟨3, _, by decide, by decide, _, List.append_assoc ..⟩
theorem HeadWord.getLogicalDestRegLogicalId (x : Slot) : HeadWord.Statement (.getLogicalDestRegLogicalId x) := ⟨2, _, by decide, by decide, _, rfl⟩
theorem HeadWord.withLogicalDestRegLogicalId (x : Slot) (v : RegWord) : HeadWord.Statement (.withLogicalDestRegLogicalId x v) := ⟨3, _, by decide, by decide, _, List.append_assoc ..⟩
theorem HeadWord.getDestFormatRegModel (x : Slot) : HeadWord.Statement (.getDestFormatRegModel x) := ⟨2, _, by decide, by decide, _, rfl⟩
theorem HeadWord.withDestFormatRegModel (x : Slot) (v : RegWord) : HeadWord.Statement (.withDestFormatRegModel x v) := ⟨3, _, by decide, by decide, _, List.append_assoc ..⟩
theorem HeadWord.getSpuriousRegVector (x : Slot) : HeadWord.Statement (.getSpuriousRegVector x) := ⟨2, _, by decide, by decide, _, rfl⟩
theorem HeadWord.withSpuriousRegVector (x : Slot) (v : RegWord) : HeadWord.Statement (.withSpuriousRegVector x v) := ⟨3, _, by decide, by decide, _, List.append_assoc ..⟩
theorem HeadWord.getSpuriousRegEnable (x : Slot) : HeadWord.Statement (.getSpuriousRegEnable x) := ⟨2, _, by decide, by decide, _, rfl⟩
theorem HeadWord.withSpuriousRegEnable (x : Slot) (v : RegWord) : HeadWord.Statement (.withSpuriousRegEnable x v) := ⟨3, _, by decide, by decide, _, List.append_assoc ..⟩
theorem HeadWord.getSpuriousRegFocusCheck (x : Slot) : HeadWord.Statement (.getSpuriousRegFocusCheck x) := ⟨2, _, by decide, by decide, _, rfl⟩
theorem HeadWord.withSpuriousRegFocusCheck (x : Slot) (v : RegWord) : HeadWord.Statement (.withSpuriousRegFocusCheck x v) := ⟨3, _, by decide, by decide, _, List.append_assoc ..⟩
theorem HeadWord.getSpuriousRegEoiBcastSuppress (x : Slot) : HeadWord.Statement (.getSpuriousRegEoiBcastSuppress x) := ⟨2, _, by decide, by decide, _, rfl⟩
theorem HeadWord.withSpuriousRegEoiBcastSuppress (x : Slot) (v : RegWord) : HeadWord.Statement (.withSpuriousRegEoiBcastSuppress x v) := ⟨3, _, by decide, by decide, _, List.append_assoc ..⟩
theorem HeadWord.getBitmask32RegBits (x : Slot) : HeadWord.Statement (.getBitmask32RegBits x) := ⟨2, _, by decide, by decide, _, rfl⟩
theorem HeadWord.withBitmask32RegBits (x : Slot) (v : RegWord) : HeadWord.Statement (.withBitmask32RegBits x v) := ⟨3, _, by decide, by decide, _, List.append_assoc ..⟩
theorem HeadWord.getErrorStatusRegSendChecksum (x : Slot) : HeadWord.Statement (.getErrorStatusRegSendChecksum x) := ⟨2, _, by decide, by decide, _, rfl⟩
theorem HeadWord.withErrorStatusRegSendChecksum (x : Slot) (v : RegWord) : HeadWord.Statement (.withErrorStatusRegSendChecksum x v) := ⟨3, _, by decide, by decide, _, List.append_assoc ..⟩
theorem HeadWord.getErrorStatusRegRecvChecksum (x : Slot) : HeadWord.Statement (.getErrorStatusRegRecvChecksum x) := ⟨2, _, by decide, by decide, _, rfl⟩
theorem HeadWord.withErrorStatusRegRecvChecksum (x : Slot) (v : RegWord) : HeadWord.Statement (.withErrorStatusRegRecvChecksum x v) := ⟨3, _, by decide, by decide, _, List.append_assoc ..⟩
theorem HeadWord.getErrorStatusRegSendAccept (x : Slot) : HeadWord.Statement (.getErrorStatusRegSendAccept x) := ⟨2, _, by decide, by decide, _, rfl⟩
theorem HeadWord.withErrorStatusRegSendAccept (x : Slot) (v : RegWord) : HeadWord.Statement (.withErrorStatusRegSendAccept x v) := ⟨3, _, by decide, by decide, _, List.append_assoc ..⟩
theorem HeadWord.getErrorStatusRegRecvAccept (x : Slot) : HeadWord.Statement (.getErrorStatusRegRecvAccept x) := ⟨2, _, by decide, by decide, _, rfl⟩
theorem HeadWord.withErrorStatusRegRecvAccept (x : Slot) (v : RegWord) : HeadWord.Statement (.withErrorStatusRegRecvAccept x v) := ⟨3, _, by decide, by decide, _, List.append_assoc ..⟩
theorem HeadWord.getErrorStatusRegRedirectableIpi (x : Slot) : HeadWord.Statement (.getErrorStatusRegRedirectableIpi x) := ⟨2, _, by decide, by decide, _, rfl⟩
theorem HeadWord.withErrorStatusRegRedirectableIpi (x : Slot) (v : RegWord) : HeadWord.Statement (.withErrorStatusRegRedirectableIpi x v) := ⟨3, _, by decide, by decide, _, List.append_assoc ..⟩
theorem HeadWord.getErrorStatusRegSendIllegalVector (x : Slot) : HeadWord.Statement (.getErrorStatusRegSendIllegalVector x) := ⟨2, _, by decide, by decide, _, rfl⟩
theorem HeadWord.withErrorStatusRegSendIllegalVector (x : Slot) (v : RegWord) : HeadWord.Statement (.withErrorStatusRegSendIllegalVector x v) := ⟨3, _, by decide, by decide, _, List.append_assoc ..⟩
theorem HeadWord.getErrorStatusRegRecvIllegalVector (x : Slot) : HeadWord.Statement (.getErrorStatusRegRecvIllegalVector x) := ⟨2, _, by decide, by decide, _, rfl⟩
theorem HeadWord.withErrorStatusRegRecvIllegalVector (x : Slot) (v : RegWord) : HeadWord.Statement (.withErrorStatusRegRecvIllegalVector x v) := ⟨3, _, by decide, by decide, _, List.append_assoc ..⟩
theorem HeadWord.getErrorStatusRegIllegalRegAddr (x : Slot) : HeadWord.Statement (.getErrorStatusRegIllegalRegAddr x) := ⟨2, _, by decide, by decide, _, rfl⟩
theorem HeadWord.withErrorStatusRegIllegalRegAddr (x : Slot) (v : RegWord) : HeadWord.Statement (.withErrorStatusRegIllegalRegAddr x v) := ⟨3, _, by decide, by decide, _, List.append_assoc ..⟩
theorem HeadWord.getIcrLowRegVector (x : Slot) : HeadWord.Statement (.getIcrLowRegVector x) := ⟨2, _, by decide, by decide, _, rfl⟩
theorem HeadWord.withIcrLowRegVector (x : Slot) (v : RegWord) : HeadWord.Statement (.withIcrLowRegVector x v) := ⟨3, _, by decide, by decide, _, List.append_assoc ..⟩
theorem HeadWord.getIcrLowRegDeliveryMode (x : Slot) : HeadWord.Statement (.getIcrLowRegDeliveryMode x) := ⟨2, _, by decide, by decide, _, rfl⟩
theorem HeadWord.withIcrLowRegDeliveryMode (x : Slot) (v : RegWord) : HeadWord.Statement (.withIcrLowRegDeliveryMode x v) := ⟨3, _, by decide, by decide, _, List.append_assoc ..⟩
theorem HeadWord.getIcrLowRegDestMode (x : Slot) : HeadWord.Statement (.getIcrLowRegDestMode x) := ⟨2, _, by decide, by decide, _, rfl⟩
theorem HeadWord.withIcrLowRegDestMode (x : Slot) (v : RegWord) : HeadWord.Statement (.withIcrLowRegDestMode x v) := ⟨3, _, by decide, by decide, _, List.append_assoc ..⟩
theorem HeadWord.getIcrLowRegDeliveryStatus (x : Slot) : HeadWord.Statement (.getIcrLowRegDeliveryStatus x) := ⟨2, _, by decide, by decide, _, rfl⟩
theorem HeadWord.withIcrLowRegDeliveryStatus (x : Slot) (v : RegWord) : HeadWord.Statement (.withIcrLowRegDeliveryStatus x v) := ⟨3, _, by decide, by decide, _, List.append_assoc ..⟩
theorem HeadWord.getIcrLowRegLevel (x : Slot) : HeadWord.Statement (.getIcrLowRegLevel x) := ⟨2, _, by decide, by decide, _, rfl⟩
theorem HeadWord.withIcrLowRegLevel (x : Slot) (v : RegWord) : HeadWord.Statement (.withIcrLowRegLevel x v) := ⟨3, _, by decide, by decide, _, List.append_assoc ..⟩
theorem HeadWord.getIcrLowRegTriggerMode (x : Slot) : HeadWord.Statement (.getIcrLowRegTriggerMode x) := ⟨2, _, by decide, by decide, _, rfl⟩
theorem HeadWord.withIcrLowRegTriggerMode (x : Slot) (v : RegWord) : HeadWord.Statement (.withIcrLowRegTriggerMode x v) := ⟨3, _, by decide, by decide, _, List.append_assoc ..⟩
theorem HeadWord.getIcrLowRegShorthand (x : Slot) : HeadWord.Statement (.getIcrLowRegShorthand x) := ⟨2, _, by decide, by decide, _, rfl⟩
theorem HeadWord.withIcrLowRegShorthand (x : Slot) (v : RegWord) : HeadWord.Statement (.withIcrLowRegShorthand x v) := ⟨3, _, by decide, by decide, _, List.append_assoc ..⟩
theorem HeadWord.getIcrHighRegDestination (x : Slot) : HeadWord.Statement (.getIcrHighRegDestination x) := ⟨2, _, by decide, by decide, _, rfl⟩
theorem HeadWord.withIcrHighRegDestination (x : Slot) (v : RegWord) : HeadWord.Statement (.withIcrHighRegDestination x v) := ⟨3, _, by decide, by decide, _, List.append_assoc ..⟩
theorem HeadWord.getLvtTimerRegVector (x : Slot) : HeadWord.Statement (.getLvtTimerRegVector x) := ⟨2, _, by decide, by decide, _, rfl⟩
theorem HeadWord.withLvtTimerRegVector (x : Slot) (v : RegWord) : HeadWord.Statement (.withLvtTimerRegVector x v) := ⟨3, _, by decide, by decide, _, List.append_assoc ..⟩
theorem HeadWord.getLvtTimerRegDeliveryStatus (x : Slot) : HeadWord.Statement (.getLvtTimerRegDeliveryStatus x) := ⟨2, _, by decide, by decide, _, rfl⟩
theorem HeadWord.withLvtTimerRegDeliveryStatus (x : Slot) (v : RegWord) : HeadWord.Statement (.withLvtTimerRegDeliveryStatus x v) := ⟨3, _, by decide, by decide, _, List.append_assoc ..⟩
theorem HeadWord.getLvtTimerRegMask (x : Slot) : HeadWord.Statement (.getLvtTimerRegMask x) := ⟨2, _, by decide, by decide, _, rfl⟩
theorem HeadWord.withLvtTimerRegMask (x : Slot) (v : RegWord) : HeadWord.Statement (.withLvtTimerRegMask x v) := ⟨3, _, by decide, by decide, _, List.append_assoc ..⟩
theorem HeadWord.getLvtTimerRegTimerMode (x : Slot) : HeadWord.Statement (.getLvtTimerRegTimerMode x) := ⟨2, _, by decide, by decide, _, rfl⟩
theorem HeadWord.withLvtTimerRegTimerMode (x : Slot) (v : RegWord) : HeadWord.Statement (.withLvtTimerRegTimerMode x v) := ⟨3, _, by decide, by decide, _, List.append_assoc ..⟩
theorem HeadWord.getLvtThermalRegVector (x : Slot) : HeadWord.Statement (.getLvtThermalRegVector x) := ⟨2, _, by decide, by decide, _, rfl⟩
theorem HeadWord.withLvtThermalRegVector (x : Slot) (v : RegWord) : HeadWord.Statement (.withLvtThermalRegVector x v) := ⟨3, _, by decide, by decide, _, List.append_assoc ..⟩
theorem HeadWord.getLvtThermalRegDeliveryMode (x : Slot) : HeadWord.Statement (.getLvtThermalRegDeliveryMode x) := ⟨2, _, by decide, by decide, _, rfl⟩
theorem HeadWord.withLvtThermalRegDeliveryMode (x : Slot) (v : RegWord) : HeadWord.Statement (.withLvtThermalRegDeliveryMode x v) := ⟨3, _, by decide, by decide, _, List.append_assoc ..⟩
theorem HeadWord.getLvtThermalRegDeliveryStatus (x : Slot) : HeadWord.Statement (.getLvtThermalRegDeliveryStatus x) := ⟨2, _, by decide, by decide, _, rfl⟩
theorem HeadWord.withLvtThermalRegDeliveryStatus (x : Slot) (v : RegWord) : HeadWord.Statement (.withLvtThermalRegDeliveryStatus x v) := ⟨3, _, by decide, by decide, _, List.append_assoc ..⟩
theorem HeadWord.getLvtThermalRegMask (x : Slot) : HeadWord.Statement (.getLvtThermalRegMask x) := ⟨2, _, by decide, by decide, _, rfl⟩
theorem HeadWord.withLvtThermalRegMask (x : Slot) (v : RegWord) : HeadWord.Statement (.withLvtThermalRegMask x v) := ⟨3, _, by decide, by decide, _, List.append_assoc ..⟩
theorem HeadWord.getLvtPerfRegVector (x : Slot) : HeadWord.Statement (.getLvtPerfRegVector x) := ⟨2, _, by decide, by decide, _, rfl⟩
theorem HeadWord.withLvtPerfRegVector (x : Slot) (v : RegWord) : HeadWord.Statement (.withLvtPerfRegVector x v) := ⟨3, _, by decide, by decide, _, List.append_assoc ..⟩
theorem HeadWord.getLvtPerfRegDeliveryMode (x : Slot) : HeadWord.Statement (.getLvtPerfRegDeliveryMode x) := ⟨2, _, by decide, by decide, _, rfl⟩
theorem HeadWord.withLvtPerfRegDeliveryMode (x : Slot) (v : RegWord) : HeadWord.Statement (.withLvtPerfRegDeliveryMode x v) := ⟨3, _, by decide, by decide, _, List.append_assoc ..⟩
theorem HeadWord.getLvtPerfRegDeliveryStatus (x : Slot) : HeadWord.Statement (.getLvtPerfRegDeliveryStatus x) := ⟨2, _, by decide, by decide, _, rfl⟩
theorem HeadWord.withLvtPerfRegDeliveryStatus (x : Slot) (v : RegWord) : HeadWord.Statement (.withLvtPerfRegDeliveryStatus x v) := ⟨3, _, by decide, by decide, _, List.append_assoc ..⟩
theorem HeadWord.getLvtPerfRegMask (x : Slot) : HeadWord.Statement (.getLvtPerfRegMask x) := ⟨2, _, by decide, by decide, _, rfl⟩
theorem HeadWord.withLvtPerfRegMask (x : Slot) (v : RegWord) : HeadWord.Statement (.withLvtPerfRegMask x v) := ⟨3, _, by decide, by decide, _, List.append_assoc ..⟩
theorem HeadWord.getLvtLintRegVector (x : Slot) : HeadWord.Statement (.getLvtLintRegVector x) := ⟨2, _, by decide, by decide, _, rfl⟩
theorem HeadWord.withLvtLintRegVector (x : Slot) (v : RegWord) : HeadWord.Statement (.withLvtLintRegVector x v) := ⟨3, _, by decide, by decide, _, List.append_assoc ..⟩
theorem HeadWord.getLvtLintRegDeliveryMode (x : Slot) : HeadWord.Statement (.getLvtLintRegDeliveryMode x) := ⟨2, _, by decide, by decide, _, rfl⟩
theorem HeadWord.withLvtLintRegDeliveryMode (x : Slot) (v : RegWord) : HeadWord.Statement (.withLvtLintRegDeliveryMode x v) := ⟨3, _, by decide, by decide, _, List.append_assoc ..⟩
theorem HeadWord.getLvtLintRegDeliveryStatus (x : Slot) : HeadWord.Statement (.getLvtLintRegDeliveryStatus x) := ⟨2, _, by decide, by decide, _, rfl⟩
theorem HeadWord.withLvtLintRegDeliveryStatus (x : Slot) (v : RegWord) : HeadWord.Statement (.withLvtLintRegDeliveryStatus x v) := ⟨3, _, by decide, by decide, _, List.append_assoc ..⟩
theorem HeadWord.getLvtLintRegPolarity (x : Slot) : HeadWord.Statement (.getLvtLintRegPolarity x) := ⟨2, _, by decide, by decide, _, rfl⟩
theorem HeadWord.withLvtLintRegPolarity (x : Slot) (v : RegWord) : HeadWord.Statement (.withLvtLintRegPolarity x v) := ⟨3, _, by decide, by decide, _, List.append_assoc ..⟩
theorem HeadWord.getLvtLintRegRemoteIrr (x : Slot) : HeadWord.Statement (.getLvtLintRegRemoteIrr x) := ⟨2, _, by decide, by decide, _, rfl⟩
theorem HeadWord.withLvtLintRegRemoteIrr (x : Slot) (v : RegWord) : HeadWord.Statement (.withLvtLintRegRemoteIrr x v) := ⟨3, _, by decide, by decide, _, List.append_assoc ..⟩
theorem HeadWord.getLvtLintRegTriggerMode (x : Slot) : HeadWord.Statement (.getLvtLintRegTriggerMode x) := ⟨2, _, by decide, by decide, _, rfl⟩
theorem HeadWord.withLvtLintRegTriggerMode (x : Slot) (v : RegWord) : HeadWord.Statement (.withLvtLintRegTriggerMode x v) := ⟨3, _, by decide, by decide, _, List.append_assoc ..⟩
theorem HeadWord.getLvtLintRegMask (x : Slot) : HeadWord.Statement (.getLvtLintRegMask x) := ⟨2, _, by decide, by decide, _, rfl⟩
theorem HeadWord.withLvtLintRegMask (x : Slot) (v : RegWord) : HeadWord.Statement (.withLvtLintRegMask x v) := ⟨3, _, by decide, by decide, _, List.append_assoc ..⟩
theorem HeadWord.getLvtErrorRegVector (x : Slot) : HeadWord.Statement (.getLvtErrorRegVector x) := ⟨2, _, by decide, by decide, _, rfl⟩
theorem HeadWord.withLvtErrorRegVector (x : Slot) (v : RegWord) : HeadWord.Statement (.withLvtErrorRegVector x v) := ⟨3, _, by decide, by decide, _, List.append_assoc ..⟩
theorem HeadWord.getLvtErrorRegDeliveryStatus (x : Slot) : HeadWord.Statement (.getLvtErrorRegDeliveryStatus x) := ⟨2, _, by decide, by decide, _, rfl⟩
theorem HeadWord.withLvtErrorRegDeliveryStatus (x : Slot) (v : RegWord) : HeadWord.Statement (.withLvtErrorRegDeliveryStatus x v) := ⟨3, _, by decide, by decide, _, List.append_assoc ..⟩
theorem HeadWord.getLvtErrorRegMask (x : Slot) : HeadWord.Statement (.getLvtErrorRegMask x) := ⟨2, _, by decide, by decide, _, rfl⟩
theorem HeadWord.withLvtErrorRegMask (x : Slot) (v : RegWord) : HeadWord.Statement (.withLvtErrorRegMask x v) := ⟨3, _, by decide, by decide, _, List.append_assoc ..⟩
theorem HeadWord.getTimerCountRegCount (x : Slot) : HeadWord.Statement (.getTimerCountRegCount x) := ⟨2, _, by decide, by decide, _, rfl⟩
theorem HeadWord.withTimerCountRegCount (x : Slot) (v : RegWord) : HeadWord.Statement (.withTimerCountRegCount x v) := ⟨3, _, by decide, by decide, _, List.append_assoc ..⟩
theorem HeadWord.getTimerDivideRegDivLo (x : Slot) : HeadWord.Statement (.getTimerDivideRegDivLo x) := ⟨2, _, by decide, by decide, _, rfl⟩
theorem HeadWord.withTimerDivideRegDivLo (x : Slot) (v : RegWord) : HeadWord.Statement (.withTimerDivideRegDivLo x v) := ⟨3, _, by decide, by decide, _, List.append_assoc ..⟩
theorem HeadWord.getTimerDivideRegDivHi (x : Slot) : HeadWord.Statement (.getTimerDivideRegDivHi x) := ⟨2, _, by decide, by decide, _, rfl⟩
theorem HeadWord.withTimerDivideRegDivHi (x : Slot) (v : RegWord) : HeadWord.Statement (.withTimerDivideRegDivHi x v) := ⟨3, _, by decide, by decide, _, List.append_assoc ..⟩

end Sys2Proof.Laws
end

