-- ==== Sys2Proof/Machine/Flags.lean ====
section
/-! DEFINITION. The block has no flags and no condition codes, and no operation writes any state as a side effect
(10_state.md R16). "Flags written: none" stands in every operation rule, so `flagsWritten` is empty for every one. -/

namespace Sys2Proof.Machine

/-- The flags of the block: none (R16). -/
inductive Flag where
  deriving DecidableEq, Repr

/-- The flags an operation writes: none (R16). -/
def flagsWritten (_ : Instr) : List Flag := []

end Sys2Proof.Machine
end

