-- ==== Sys2Proof/Tests/Slice0.lean ====
section
/-! SUPPORT. Tests: the WellFormed smoke, the decoding of every constructor shown by bytes written out, the examples and vectors of
spec/ (the expected values are the spec's own), and a witness for every obligation that has hypotheses. -/

set_option Elab.async false

namespace Sys2Proof.Tests
open Sys2Proof.Machine

/-- What an outcome's next state returned to the host. -/
def resultsOf : Host.Outcome State Fault Refusal → Option (List Result)
  | .next s => some s.results
  | _ => none

/-- The next state, if there is one. -/
def next? : Host.Outcome State Fault Refusal → Option State
  | .next s => some s
  | _ => none

/-- The reason of a refusal. -/
def refusal? : Host.Outcome State Fault Refusal → Option Refusal
  | .refused r => some r
  | _ => none

def zeros (n : Nat) : List Byte := List.replicate n 0#8

/-- A state with some bytes in the block. -/
def blockOf (m : Memory) : State := { State.reset with mem := m }

/-- Whether the bytes decode to the operation with nothing left over. -/
def readsAs (bs : List Byte) (i : Instr) : Bool := decode bs == .ok i []

/-! ## WellFormed: an ill-formed term for each check -/

theorem test_reset_memory_is_canonical : State.reset.mem.wf = true := by decide

/-- R56: the operand one past the largest of every field narrower than 32 bits, in all four forms. -/
theorem test_wf_refuses_wide_literals :
    Field.all.all (fun f => f.width == 32 ||
      (!(Instr.wf (.opWith f 0#128 (BitVec.ofNat 32 (2 ^ f.width)))) && !(Instr.wf (.opSet f (BitVec.ofNat 32 (2 ^ f.width)))) &&
       !(Instr.wf (f.withInstr 0#128 (BitVec.ofNat 32 (2 ^ f.width)))))) = true ∧
    Instr.wf (.setf .id .idRegId 0x10#32) = false ∧ Instr.wf (.setf .id .idRegId 0xF#32) = true := by decide

/-- R82, R184: byte strings of another length. -/
theorem test_wf_refuses_other_lengths :
    Instr.wf (.fromBytes (zeros 15)) = false ∧ Instr.wf (.fromBytes (zeros 17)) = false ∧
    Instr.wf (.fromBytes (zeros 16)) = true ∧ Instr.wf (.rfFromBytes (zeros 4)) = false := by decide

theorem test_wf_refuses_1025_bytes : Instr.wf (.rfFromBytes (zeros 1025)) = false := by
  simp only [Instr.wf, zeros, List.length_replicate]; decide

theorem test_wf_refuses_2048_data_bytes (a : BitVec 11) : Instr.wf (.wr a (zeros 2048)) = false := by
  simp only [Instr.wf, zeros, List.length_replicate]; decide

/-- R91: a field of another type. -/
theorem test_wf_refuses_fields_of_another_type :
    Instr.wf (.getf .id .versionRegVersion) = false ∧ Instr.wf (.setf .tpr .idRegId 0#32) = false ∧
    Instr.wf (.getf .id .idRegId) = true := by decide

/-- R58: a record of no byte, or of 1025, on every row of the operation map. -/
theorem test_wf_refuses_bad_record_sizes :
    operationMap.all (fun r => !(r.instr 0#10 (.read 0)).wf && !(r.instr 0#10 (.read 1025)).wf &&
      !(r.instr 0#10 (.write [])).wf && (r.instr 0#10 (.read 1024)).wf) = true := by decide

/-! ## Decode: bytes written out by hand for every constructor (byte form: log 1) -/

/-- The generic operations of 30_encoding.md R65, class 1. -/
theorem test_decode_generic :
    readsAs ([0x00#8, 0x04#8, 0x07#8, 0x00#8]) (.opDefault .bitmask32Reg) = true ∧
    readsAs ([0x01#8, 0x04#8, 0x02#8, 0x00#8, 0x01#8] ++ zeros 15) (.opGet .versionRegMaxLvtEntry 0x01#128) = true ∧
    readsAs ([0x02#8, 0x04#8, 0x00#8, 0x00#8, 0x01#8] ++ zeros 15 ++ [0x09#8, 0x00#8, 0x00#8, 0x00#8]) (.opWith .idRegId 0x01#128 0x9#32) = true ∧
    readsAs ([0x03#8, 0x04#8, 0x35#8, 0x00#8, 0x01#8, 0x00#8, 0x00#8, 0x00#8]) (.opSet .timerDivideRegDivHi 1#32) = true ∧
    readsAs ([0x04#8, 0x04#8, 0x01#8, 0x02#8] ++ zeros 14) (.toBytes 0x0201#128) = true ∧
    readsAs ([0x05#8, 0x04#8, 0xAA#8] ++ zeros 15) (.fromBytes (0xAA#8 :: zeros 15)) = true ∧
    readsAs ([0x06#8, 0x04#8, 0x01#8] ++ zeros 15 ++ [0x02#8] ++ zeros 15) (.opEq 0x01#128 0x02#128) = true ∧
    readsAs ([0x07#8, 0x04#8]) (.rfDefault) = true ∧
    readsAs ([0x08#8, 0x04#8]) (.rfToBytes) = true ∧
    readsAs ([0x0A#8, 0x04#8, 0xFF#8, 0x03#8, 0x02#8, 0x00#8]) (.rd 0x3FF#11 2#11) = true ∧
    readsAs ([0x0B#8, 0x04#8, 0x2E#8, 0x00#8, 0x02#8, 0x00#8, 0x11#8, 0x22#8]) (.wr 0x02E#11 [0x11#8, 0x22#8]) = true ∧
    readsAs ([0x0C#8, 0x04#8, 0x0F#8, 0x00#8]) (.rds .svr) = true ∧
    readsAs ([0x0D#8, 0x04#8, 0x17#8, 0x00#8, 0x05#8] ++ zeros 15) (.wrs (.isr 7#3) 0x05#128) = true ∧
    readsAs ([0x0E#8, 0x04#8, 0x3E#8, 0x00#8]) (.rdw .tdcr) = true ∧
    readsAs ([0x0F#8, 0x04#8, 0x31#8, 0x00#8, 0x00#8, 0x00#8, 0x00#8, 0x02#8]) (.wrw .icrh 0x02000000#32) = true ∧
    readsAs ([0x10#8, 0x04#8, 0x36#8, 0x00#8, 0x2F#8, 0x00#8]) (.getf .lvtl1 .lvtLintRegMask) = true ∧
    readsAs ([0x11#8, 0x04#8, 0x02#8, 0x00#8, 0x00#8, 0x00#8, 0x03#8, 0x00#8, 0x00#8, 0x00#8]) (.setf .id .idRegId 3#32) = true := by
  refine ⟨?_, ?_, ?_, ?_, ?_, ?_, ?_, ?_, ?_, ?_, ?_, ?_, ?_, ?_, ?_, ?_, ?_⟩ <;> decide

/-- `RF_FROM_BYTES`, its 1024 bytes any: the two bytes of the head, then the data. -/
theorem test_decode_rf_from_bytes : readsAs ([0x09#8, 0x04#8] ++ zeros 1024) (.rfFromBytes (zeros 1024)) = true := by
  set_option maxRecDepth 100000 in decide

/-- Rows of the operation map (30_encoding.md R59): `R a 4` at an offset of each. -/
theorem test_decode_rows_single :
    readsAs [0x2C#8, 0x00#8, 0x03#8, 0x00#8] (.accId 12#4 (.read 4)) = true ∧
    readsAs [0x3C#8, 0x00#8, 0x03#8, 0x00#8] (.accVer 12#4 (.read 4)) = true ∧
    readsAs [0x8C#8, 0x00#8, 0x03#8, 0x00#8] (.accTpr 12#4 (.read 4)) = true ∧
    readsAs [0x9C#8, 0x00#8, 0x03#8, 0x00#8] (.accApr 12#4 (.read 4)) = true ∧
    readsAs [0xAC#8, 0x00#8, 0x03#8, 0x00#8] (.accPpr 12#4 (.read 4)) = true ∧
    readsAs [0xBC#8, 0x00#8, 0x03#8, 0x00#8] (.accEoi 12#4 (.read 4)) = true ∧
    readsAs [0xDC#8, 0x00#8, 0x03#8, 0x00#8] (.accLdr 12#4 (.read 4)) = true ∧
    readsAs [0xEC#8, 0x00#8, 0x03#8, 0x00#8] (.accDfr 12#4 (.read 4)) = true ∧
    readsAs [0xFC#8, 0x00#8, 0x03#8, 0x00#8] (.accSvr 12#4 (.read 4)) = true ∧
    readsAs [0x35#8, 0x01#8, 0x03#8, 0x00#8] (.accIsr 3#3 5#4 (.read 4)) = true ∧
    readsAs [0xB5#8, 0x01#8, 0x03#8, 0x00#8] (.accTmr 3#3 5#4 (.read 4)) = true ∧
    readsAs [0x35#8, 0x02#8, 0x03#8, 0x00#8] (.accIrr 3#3 5#4 (.read 4)) = true := by
  refine ⟨?_, ?_, ?_, ?_, ?_, ?_, ?_, ?_, ?_, ?_, ?_, ?_⟩ <;> decide

/-- Rows of the operation map (30_encoding.md R59): `R a 4` at an offset of each. -/
theorem test_decode_rows_single2 :
    readsAs [0x8C#8, 0x02#8, 0x03#8, 0x00#8] (.accEsr 12#4 (.read 4)) = true ∧
    readsAs [0x0C#8, 0x03#8, 0x03#8, 0x00#8] (.accIcrl 12#4 (.read 4)) = true ∧
    readsAs [0x1C#8, 0x03#8, 0x03#8, 0x00#8] (.accIcrh 12#4 (.read 4)) = true ∧
    readsAs [0x2C#8, 0x03#8, 0x03#8, 0x00#8] (.accLvtt 12#4 (.read 4)) = true ∧
    readsAs [0x3C#8, 0x03#8, 0x03#8, 0x00#8] (.accLvtth 12#4 (.read 4)) = true ∧
    readsAs [0x4C#8, 0x03#8, 0x03#8, 0x00#8] (.accLvtpc 12#4 (.read 4)) = true ∧
    readsAs [0x5C#8, 0x03#8, 0x03#8, 0x00#8] (.accLvtl0 12#4 (.read 4)) = true ∧
    readsAs [0x6C#8, 0x03#8, 0x03#8, 0x00#8] (.accLvtl1 12#4 (.read 4)) = true ∧
    readsAs [0x7C#8, 0x03#8, 0x03#8, 0x00#8] (.accLvterr 12#4 (.read 4)) = true ∧
    readsAs [0x8C#8, 0x03#8, 0x03#8, 0x00#8] (.accTicr 12#4 (.read 4)) = true ∧
    readsAs [0x9C#8, 0x03#8, 0x03#8, 0x00#8] (.accTccr 12#4 (.read 4)) = true ∧
    readsAs [0xEC#8, 0x03#8, 0x03#8, 0x00#8] (.accTdcr 12#4 (.read 4)) = true := by
  refine ⟨?_, ?_, ?_, ?_, ?_, ?_, ?_, ?_, ?_, ?_, ?_, ?_⟩ <;> decide

/-- Rows of the operation map (30_encoding.md R59): `R a 4` at an offset of each. -/
theorem test_decode_rows_regions :
    readsAs [0x1F#8, 0x00#8, 0x03#8, 0x00#8] (.accRsv0 31#5 (.read 4)) = true ∧
    readsAs [0x7F#8, 0x00#8, 0x03#8, 0x00#8] (.accRsv1 63#6 (.read 4)) = true ∧
    readsAs [0xCF#8, 0x00#8, 0x03#8, 0x00#8] (.accRsv2 15#4 (.read 4)) = true ∧
    readsAs [0x9F#8, 0x02#8, 0x03#8, 0x00#8] (.accRsv3Slot41 15#4 (.read 4)) = true ∧
    readsAs [0xBF#8, 0x02#8, 0x03#8, 0x00#8] (.accRsv3Slots42To43 31#5 (.read 4)) = true ∧
    readsAs [0xFF#8, 0x02#8, 0x03#8, 0x00#8] (.accRsv3Slots44To47 63#6 (.read 4)) = true ∧
    readsAs [0xBF#8, 0x03#8, 0x03#8, 0x00#8] (.accRsv4Slots58To59 31#5 (.read 4)) = true ∧
    readsAs [0xDF#8, 0x03#8, 0x03#8, 0x00#8] (.accRsv4Slots60To61 31#5 (.read 4)) = true ∧
    readsAs [0xFF#8, 0x03#8, 0x03#8, 0x00#8] (.accRsv5 15#4 (.read 4)) = true := by
  refine ⟨?_, ?_, ?_, ?_, ?_, ?_, ?_, ?_, ?_⟩ <;> decide

/-- A write record: kind bit 10 of the second word, its data after it (R58). -/
theorem test_decode_write_record :
    readsAs [0x80#8, 0x03#8, 0x01#8, 0x04#8, 0xAB#8, 0xCD#8] (.accTicr 0#4 (.write [0xAB#8, 0xCD#8])) = true ∧
    readsAs [0x1F#8, 0x00#8, 0x00#8, 0x04#8, 0xFF#8] (.accRsv0 31#5 (.write [0xFF#8])) = true := by decide

theorem test_decode_IdReg :
    readsAs ([0x00#8, 0x08#8, 0x01#8] ++ zeros 15) (.getIdRegId 0x01#128) = true ∧
    readsAs ([0x00#8, 0x0C#8, 0x01#8] ++ zeros 15 ++ [0x01#8, 0x00#8, 0x00#8, 0x00#8]) (.withIdRegId 0x01#128 1#32) = true := by
  refine ⟨?_, ?_⟩ <;> decide

theorem test_decode_VersionReg :
    readsAs ([0x01#8, 0x08#8, 0x01#8] ++ zeros 15) (.getVersionRegVersion 0x01#128) = true ∧
    readsAs ([0x01#8, 0x0C#8, 0x01#8] ++ zeros 15 ++ [0x01#8, 0x00#8, 0x00#8, 0x00#8]) (.withVersionRegVersion 0x01#128 1#32) = true ∧
    readsAs ([0x02#8, 0x08#8, 0x01#8] ++ zeros 15) (.getVersionRegMaxLvtEntry 0x01#128) = true ∧
    readsAs ([0x02#8, 0x0C#8, 0x01#8] ++ zeros 15 ++ [0x01#8, 0x00#8, 0x00#8, 0x00#8]) (.withVersionRegMaxLvtEntry 0x01#128 1#32) = true := by
  refine ⟨?_, ?_, ?_, ?_⟩ <;> decide

theorem test_decode_PriorityReg :
    readsAs ([0x03#8, 0x08#8, 0x01#8] ++ zeros 15) (.getPriorityRegSubclass 0x01#128) = true ∧
    readsAs ([0x03#8, 0x0C#8, 0x01#8] ++ zeros 15 ++ [0x01#8, 0x00#8, 0x00#8, 0x00#8]) (.withPriorityRegSubclass 0x01#128 1#32) = true ∧
    readsAs ([0x04#8, 0x08#8, 0x01#8] ++ zeros 15) (.getPriorityRegClass 0x01#128) = true ∧
    readsAs ([0x04#8, 0x0C#8, 0x01#8] ++ zeros 15 ++ [0x01#8, 0x00#8, 0x00#8, 0x00#8]) (.withPriorityRegClass 0x01#128 1#32) = true := by
  refine ⟨?_, ?_, ?_, ?_⟩ <;> decide

theorem test_decode_EoiReg :
    readsAs ([0x05#8, 0x08#8, 0x01#8] ++ zeros 15) (.getEoiRegValue 0x01#128) = true ∧
    readsAs ([0x05#8, 0x0C#8, 0x01#8] ++ zeros 15 ++ [0x01#8, 0x00#8, 0x00#8, 0x00#8]) (.withEoiRegValue 0x01#128 1#32) = true := by
  refine ⟨?_, ?_⟩ <;> decide

theorem test_decode_LogicalDestReg :
    readsAs ([0x06#8, 0x08#8, 0x01#8] ++ zeros 15) (.getLogicalDestRegLogicalId 0x01#128) = true ∧
    readsAs ([0x06#8, 0x0C#8, 0x01#8] ++ zeros 15 ++ [0x01#8, 0x00#8, 0x00#8, 0x00#8]) (.withLogicalDestRegLogicalId 0x01#128 1#32) = true := by
  refine ⟨?_, ?_⟩ <;> decide

theorem test_decode_DestFormatReg :
    readsAs ([0x07#8, 0x08#8, 0x01#8] ++ zeros 15) (.getDestFormatRegModel 0x01#128) = true ∧
    readsAs ([0x07#8, 0x0C#8, 0x01#8] ++ zeros 15 ++ [0x01#8, 0x00#8, 0x00#8, 0x00#8]) (.withDestFormatRegModel 0x01#128 1#32) = true := by
  refine ⟨?_, ?_⟩ <;> decide

theorem test_decode_SpuriousReg :
    readsAs ([0x08#8, 0x08#8, 0x01#8] ++ zeros 15) (.getSpuriousRegVector 0x01#128) = true ∧
    readsAs ([0x08#8, 0x0C#8, 0x01#8] ++ zeros 15 ++ [0x01#8, 0x00#8, 0x00#8, 0x00#8]) (.withSpuriousRegVector 0x01#128 1#32) = true ∧
    readsAs ([0x09#8, 0x08#8, 0x01#8] ++ zeros 15) (.getSpuriousRegEnable 0x01#128) = true ∧
    readsAs ([0x09#8, 0x0C#8, 0x01#8] ++ zeros 15 ++ [0x01#8, 0x00#8, 0x00#8, 0x00#8]) (.withSpuriousRegEnable 0x01#128 1#32) = true ∧
    readsAs ([0x0A#8, 0x08#8, 0x01#8] ++ zeros 15) (.getSpuriousRegFocusCheck 0x01#128) = true ∧
    readsAs ([0x0A#8, 0x0C#8, 0x01#8] ++ zeros 15 ++ [0x01#8, 0x00#8, 0x00#8, 0x00#8]) (.withSpuriousRegFocusCheck 0x01#128 1#32) = true ∧
    readsAs ([0x0B#8, 0x08#8, 0x01#8] ++ zeros 15) (.getSpuriousRegEoiBcastSuppress 0x01#128) = true ∧
    readsAs ([0x0B#8, 0x0C#8, 0x01#8] ++ zeros 15 ++ [0x01#8, 0x00#8, 0x00#8, 0x00#8]) (.withSpuriousRegEoiBcastSuppress 0x01#128 1#32) = true := by
  refine ⟨?_, ?_, ?_, ?_, ?_, ?_, ?_, ?_⟩ <;> decide

theorem test_decode_Bitmask32Reg :
    readsAs ([0x0C#8, 0x08#8, 0x01#8] ++ zeros 15) (.getBitmask32RegBits 0x01#128) = true ∧
    readsAs ([0x0C#8, 0x0C#8, 0x01#8] ++ zeros 15 ++ [0x01#8, 0x00#8, 0x00#8, 0x00#8]) (.withBitmask32RegBits 0x01#128 1#32) = true := by
  refine ⟨?_, ?_⟩ <;> decide

theorem test_decode_ErrorStatusReg :
    readsAs ([0x0D#8, 0x08#8, 0x01#8] ++ zeros 15) (.getErrorStatusRegSendChecksum 0x01#128) = true ∧
    readsAs ([0x0D#8, 0x0C#8, 0x01#8] ++ zeros 15 ++ [0x01#8, 0x00#8, 0x00#8, 0x00#8]) (.withErrorStatusRegSendChecksum 0x01#128 1#32) = true ∧
    readsAs ([0x0E#8, 0x08#8, 0x01#8] ++ zeros 15) (.getErrorStatusRegRecvChecksum 0x01#128) = true ∧
    readsAs ([0x0E#8, 0x0C#8, 0x01#8] ++ zeros 15 ++ [0x01#8, 0x00#8, 0x00#8, 0x00#8]) (.withErrorStatusRegRecvChecksum 0x01#128 1#32) = true ∧
    readsAs ([0x0F#8, 0x08#8, 0x01#8] ++ zeros 15) (.getErrorStatusRegSendAccept 0x01#128) = true ∧
    readsAs ([0x0F#8, 0x0C#8, 0x01#8] ++ zeros 15 ++ [0x01#8, 0x00#8, 0x00#8, 0x00#8]) (.withErrorStatusRegSendAccept 0x01#128 1#32) = true ∧
    readsAs ([0x10#8, 0x08#8, 0x01#8] ++ zeros 15) (.getErrorStatusRegRecvAccept 0x01#128) = true ∧
    readsAs ([0x10#8, 0x0C#8, 0x01#8] ++ zeros 15 ++ [0x01#8, 0x00#8, 0x00#8, 0x00#8]) (.withErrorStatusRegRecvAccept 0x01#128 1#32) = true ∧
    readsAs ([0x11#8, 0x08#8, 0x01#8] ++ zeros 15) (.getErrorStatusRegRedirectableIpi 0x01#128) = true ∧
    readsAs ([0x11#8, 0x0C#8, 0x01#8] ++ zeros 15 ++ [0x01#8, 0x00#8, 0x00#8, 0x00#8]) (.withErrorStatusRegRedirectableIpi 0x01#128 1#32) = true ∧
    readsAs ([0x12#8, 0x08#8, 0x01#8] ++ zeros 15) (.getErrorStatusRegSendIllegalVector 0x01#128) = true ∧
    readsAs ([0x12#8, 0x0C#8, 0x01#8] ++ zeros 15 ++ [0x01#8, 0x00#8, 0x00#8, 0x00#8]) (.withErrorStatusRegSendIllegalVector 0x01#128 1#32) = true ∧
    readsAs ([0x13#8, 0x08#8, 0x01#8] ++ zeros 15) (.getErrorStatusRegRecvIllegalVector 0x01#128) = true ∧
    readsAs ([0x13#8, 0x0C#8, 0x01#8] ++ zeros 15 ++ [0x01#8, 0x00#8, 0x00#8, 0x00#8]) (.withErrorStatusRegRecvIllegalVector 0x01#128 1#32) = true ∧
    readsAs ([0x14#8, 0x08#8, 0x01#8] ++ zeros 15) (.getErrorStatusRegIllegalRegAddr 0x01#128) = true ∧
    readsAs ([0x14#8, 0x0C#8, 0x01#8] ++ zeros 15 ++ [0x01#8, 0x00#8, 0x00#8, 0x00#8]) (.withErrorStatusRegIllegalRegAddr 0x01#128 1#32) = true := by
  refine ⟨?_, ?_, ?_, ?_, ?_, ?_, ?_, ?_, ?_, ?_, ?_, ?_, ?_, ?_, ?_, ?_⟩ <;> decide

theorem test_decode_IcrLowReg :
    readsAs ([0x15#8, 0x08#8, 0x01#8] ++ zeros 15) (.getIcrLowRegVector 0x01#128) = true ∧
    readsAs ([0x15#8, 0x0C#8, 0x01#8] ++ zeros 15 ++ [0x01#8, 0x00#8, 0x00#8, 0x00#8]) (.withIcrLowRegVector 0x01#128 1#32) = true ∧
    readsAs ([0x16#8, 0x08#8, 0x01#8] ++ zeros 15) (.getIcrLowRegDeliveryMode 0x01#128) = true ∧
    readsAs ([0x16#8, 0x0C#8, 0x01#8] ++ zeros 15 ++ [0x01#8, 0x00#8, 0x00#8, 0x00#8]) (.withIcrLowRegDeliveryMode 0x01#128 1#32) = true ∧
    readsAs ([0x17#8, 0x08#8, 0x01#8] ++ zeros 15) (.getIcrLowRegDestMode 0x01#128) = true ∧
    readsAs ([0x17#8, 0x0C#8, 0x01#8] ++ zeros 15 ++ [0x01#8, 0x00#8, 0x00#8, 0x00#8]) (.withIcrLowRegDestMode 0x01#128 1#32) = true ∧
    readsAs ([0x18#8, 0x08#8, 0x01#8] ++ zeros 15) (.getIcrLowRegDeliveryStatus 0x01#128) = true ∧
    readsAs ([0x18#8, 0x0C#8, 0x01#8] ++ zeros 15 ++ [0x01#8, 0x00#8, 0x00#8, 0x00#8]) (.withIcrLowRegDeliveryStatus 0x01#128 1#32) = true ∧
    readsAs ([0x19#8, 0x08#8, 0x01#8] ++ zeros 15) (.getIcrLowRegLevel 0x01#128) = true ∧
    readsAs ([0x19#8, 0x0C#8, 0x01#8] ++ zeros 15 ++ [0x01#8, 0x00#8, 0x00#8, 0x00#8]) (.withIcrLowRegLevel 0x01#128 1#32) = true ∧
    readsAs ([0x1A#8, 0x08#8, 0x01#8] ++ zeros 15) (.getIcrLowRegTriggerMode 0x01#128) = true ∧
    readsAs ([0x1A#8, 0x0C#8, 0x01#8] ++ zeros 15 ++ [0x01#8, 0x00#8, 0x00#8, 0x00#8]) (.withIcrLowRegTriggerMode 0x01#128 1#32) = true ∧
    readsAs ([0x1B#8, 0x08#8, 0x01#8] ++ zeros 15) (.getIcrLowRegShorthand 0x01#128) = true ∧
    readsAs ([0x1B#8, 0x0C#8, 0x01#8] ++ zeros 15 ++ [0x01#8, 0x00#8, 0x00#8, 0x00#8]) (.withIcrLowRegShorthand 0x01#128 1#32) = true := by
  refine ⟨?_, ?_, ?_, ?_, ?_, ?_, ?_, ?_, ?_, ?_, ?_, ?_, ?_, ?_⟩ <;> decide

theorem test_decode_IcrHighReg :
    readsAs ([0x1C#8, 0x08#8, 0x01#8] ++ zeros 15) (.getIcrHighRegDestination 0x01#128) = true ∧
    readsAs ([0x1C#8, 0x0C#8, 0x01#8] ++ zeros 15 ++ [0x01#8, 0x00#8, 0x00#8, 0x00#8]) (.withIcrHighRegDestination 0x01#128 1#32) = true := by
  refine ⟨?_, ?_⟩ <;> decide

theorem test_decode_LvtTimerReg :
    readsAs ([0x1D#8, 0x08#8, 0x01#8] ++ zeros 15) (.getLvtTimerRegVector 0x01#128) = true ∧
    readsAs ([0x1D#8, 0x0C#8, 0x01#8] ++ zeros 15 ++ [0x01#8, 0x00#8, 0x00#8, 0x00#8]) (.withLvtTimerRegVector 0x01#128 1#32) = true ∧
    readsAs ([0x1E#8, 0x08#8, 0x01#8] ++ zeros 15) (.getLvtTimerRegDeliveryStatus 0x01#128) = true ∧
    readsAs ([0x1E#8, 0x0C#8, 0x01#8] ++ zeros 15 ++ [0x01#8, 0x00#8, 0x00#8, 0x00#8]) (.withLvtTimerRegDeliveryStatus 0x01#128 1#32) = true ∧
    readsAs ([0x1F#8, 0x08#8, 0x01#8] ++ zeros 15) (.getLvtTimerRegMask 0x01#128) = true ∧
    readsAs ([0x1F#8, 0x0C#8, 0x01#8] ++ zeros 15 ++ [0x01#8, 0x00#8, 0x00#8, 0x00#8]) (.withLvtTimerRegMask 0x01#128 1#32) = true ∧
    readsAs ([0x20#8, 0x08#8, 0x01#8] ++ zeros 15) (.getLvtTimerRegTimerMode 0x01#128) = true ∧
    readsAs ([0x20#8, 0x0C#8, 0x01#8] ++ zeros 15 ++ [0x01#8, 0x00#8, 0x00#8, 0x00#8]) (.withLvtTimerRegTimerMode 0x01#128 1#32) = true := by
  refine ⟨?_, ?_, ?_, ?_, ?_, ?_, ?_, ?_⟩ <;> decide

theorem test_decode_LvtThermalReg :
    readsAs ([0x21#8, 0x08#8, 0x01#8] ++ zeros 15) (.getLvtThermalRegVector 0x01#128) = true ∧
    readsAs ([0x21#8, 0x0C#8, 0x01#8] ++ zeros 15 ++ [0x01#8, 0x00#8, 0x00#8, 0x00#8]) (.withLvtThermalRegVector 0x01#128 1#32) = true ∧
    readsAs ([0x22#8, 0x08#8, 0x01#8] ++ zeros 15) (.getLvtThermalRegDeliveryMode 0x01#128) = true ∧
    readsAs ([0x22#8, 0x0C#8, 0x01#8] ++ zeros 15 ++ [0x01#8, 0x00#8, 0x00#8, 0x00#8]) (.withLvtThermalRegDeliveryMode 0x01#128 1#32) = true ∧
    readsAs ([0x23#8, 0x08#8, 0x01#8] ++ zeros 15) (.getLvtThermalRegDeliveryStatus 0x01#128) = true ∧
    readsAs ([0x23#8, 0x0C#8, 0x01#8] ++ zeros 15 ++ [0x01#8, 0x00#8, 0x00#8, 0x00#8]) (.withLvtThermalRegDeliveryStatus 0x01#128 1#32) = true ∧
    readsAs ([0x24#8, 0x08#8, 0x01#8] ++ zeros 15) (.getLvtThermalRegMask 0x01#128) = true ∧
    readsAs ([0x24#8, 0x0C#8, 0x01#8] ++ zeros 15 ++ [0x01#8, 0x00#8, 0x00#8, 0x00#8]) (.withLvtThermalRegMask 0x01#128 1#32) = true := by
  refine ⟨?_, ?_, ?_, ?_, ?_, ?_, ?_, ?_⟩ <;> decide

theorem test_decode_LvtPerfReg :
    readsAs ([0x25#8, 0x08#8, 0x01#8] ++ zeros 15) (.getLvtPerfRegVector 0x01#128) = true ∧
    readsAs ([0x25#8, 0x0C#8, 0x01#8] ++ zeros 15 ++ [0x01#8, 0x00#8, 0x00#8, 0x00#8]) (.withLvtPerfRegVector 0x01#128 1#32) = true ∧
    readsAs ([0x26#8, 0x08#8, 0x01#8] ++ zeros 15) (.getLvtPerfRegDeliveryMode 0x01#128) = true ∧
    readsAs ([0x26#8, 0x0C#8, 0x01#8] ++ zeros 15 ++ [0x01#8, 0x00#8, 0x00#8, 0x00#8]) (.withLvtPerfRegDeliveryMode 0x01#128 1#32) = true ∧
    readsAs ([0x27#8, 0x08#8, 0x01#8] ++ zeros 15) (.getLvtPerfRegDeliveryStatus 0x01#128) = true ∧
    readsAs ([0x27#8, 0x0C#8, 0x01#8] ++ zeros 15 ++ [0x01#8, 0x00#8, 0x00#8, 0x00#8]) (.withLvtPerfRegDeliveryStatus 0x01#128 1#32) = true ∧
    readsAs ([0x28#8, 0x08#8, 0x01#8] ++ zeros 15) (.getLvtPerfRegMask 0x01#128) = true ∧
    readsAs ([0x28#8, 0x0C#8, 0x01#8] ++ zeros 15 ++ [0x01#8, 0x00#8, 0x00#8, 0x00#8]) (.withLvtPerfRegMask 0x01#128 1#32) = true := by
  refine ⟨?_, ?_, ?_, ?_, ?_, ?_, ?_, ?_⟩ <;> decide

theorem test_decode_LvtLintReg :
    readsAs ([0x29#8, 0x08#8, 0x01#8] ++ zeros 15) (.getLvtLintRegVector 0x01#128) = true ∧
    readsAs ([0x29#8, 0x0C#8, 0x01#8] ++ zeros 15 ++ [0x01#8, 0x00#8, 0x00#8, 0x00#8]) (.withLvtLintRegVector 0x01#128 1#32) = true ∧
    readsAs ([0x2A#8, 0x08#8, 0x01#8] ++ zeros 15) (.getLvtLintRegDeliveryMode 0x01#128) = true ∧
    readsAs ([0x2A#8, 0x0C#8, 0x01#8] ++ zeros 15 ++ [0x01#8, 0x00#8, 0x00#8, 0x00#8]) (.withLvtLintRegDeliveryMode 0x01#128 1#32) = true ∧
    readsAs ([0x2B#8, 0x08#8, 0x01#8] ++ zeros 15) (.getLvtLintRegDeliveryStatus 0x01#128) = true ∧
    readsAs ([0x2B#8, 0x0C#8, 0x01#8] ++ zeros 15 ++ [0x01#8, 0x00#8, 0x00#8, 0x00#8]) (.withLvtLintRegDeliveryStatus 0x01#128 1#32) = true ∧
    readsAs ([0x2C#8, 0x08#8, 0x01#8] ++ zeros 15) (.getLvtLintRegPolarity 0x01#128) = true ∧
    readsAs ([0x2C#8, 0x0C#8, 0x01#8] ++ zeros 15 ++ [0x01#8, 0x00#8, 0x00#8, 0x00#8]) (.withLvtLintRegPolarity 0x01#128 1#32) = true ∧
    readsAs ([0x2D#8, 0x08#8, 0x01#8] ++ zeros 15) (.getLvtLintRegRemoteIrr 0x01#128) = true ∧
    readsAs ([0x2D#8, 0x0C#8, 0x01#8] ++ zeros 15 ++ [0x01#8, 0x00#8, 0x00#8, 0x00#8]) (.withLvtLintRegRemoteIrr 0x01#128 1#32) = true ∧
    readsAs ([0x2E#8, 0x08#8, 0x01#8] ++ zeros 15) (.getLvtLintRegTriggerMode 0x01#128) = true ∧
    readsAs ([0x2E#8, 0x0C#8, 0x01#8] ++ zeros 15 ++ [0x01#8, 0x00#8, 0x00#8, 0x00#8]) (.withLvtLintRegTriggerMode 0x01#128 1#32) = true ∧
    readsAs ([0x2F#8, 0x08#8, 0x01#8] ++ zeros 15) (.getLvtLintRegMask 0x01#128) = true ∧
    readsAs ([0x2F#8, 0x0C#8, 0x01#8] ++ zeros 15 ++ [0x01#8, 0x00#8, 0x00#8, 0x00#8]) (.withLvtLintRegMask 0x01#128 1#32) = true := by
  refine ⟨?_, ?_, ?_, ?_, ?_, ?_, ?_, ?_, ?_, ?_, ?_, ?_, ?_, ?_⟩ <;> decide

theorem test_decode_LvtErrorReg :
    readsAs ([0x30#8, 0x08#8, 0x01#8] ++ zeros 15) (.getLvtErrorRegVector 0x01#128) = true ∧
    readsAs ([0x30#8, 0x0C#8, 0x01#8] ++ zeros 15 ++ [0x01#8, 0x00#8, 0x00#8, 0x00#8]) (.withLvtErrorRegVector 0x01#128 1#32) = true ∧
    readsAs ([0x31#8, 0x08#8, 0x01#8] ++ zeros 15) (.getLvtErrorRegDeliveryStatus 0x01#128) = true ∧
    readsAs ([0x31#8, 0x0C#8, 0x01#8] ++ zeros 15 ++ [0x01#8, 0x00#8, 0x00#8, 0x00#8]) (.withLvtErrorRegDeliveryStatus 0x01#128 1#32) = true ∧
    readsAs ([0x32#8, 0x08#8, 0x01#8] ++ zeros 15) (.getLvtErrorRegMask 0x01#128) = true ∧
    readsAs ([0x32#8, 0x0C#8, 0x01#8] ++ zeros 15 ++ [0x01#8, 0x00#8, 0x00#8, 0x00#8]) (.withLvtErrorRegMask 0x01#128 1#32) = true := by
  refine ⟨?_, ?_, ?_, ?_, ?_, ?_⟩ <;> decide

theorem test_decode_TimerCountReg :
    readsAs ([0x33#8, 0x08#8, 0x01#8] ++ zeros 15) (.getTimerCountRegCount 0x01#128) = true ∧
    readsAs ([0x33#8, 0x0C#8, 0x01#8] ++ zeros 15 ++ [0x01#8, 0x00#8, 0x00#8, 0x00#8]) (.withTimerCountRegCount 0x01#128 1#32) = true := by
  refine ⟨?_, ?_⟩ <;> decide

theorem test_decode_TimerDivideReg :
    readsAs ([0x34#8, 0x08#8, 0x01#8] ++ zeros 15) (.getTimerDivideRegDivLo 0x01#128) = true ∧
    readsAs ([0x34#8, 0x0C#8, 0x01#8] ++ zeros 15 ++ [0x01#8, 0x00#8, 0x00#8, 0x00#8]) (.withTimerDivideRegDivLo 0x01#128 1#32) = true ∧
    readsAs ([0x35#8, 0x08#8, 0x01#8] ++ zeros 15) (.getTimerDivideRegDivHi 0x01#128) = true ∧
    readsAs ([0x35#8, 0x0C#8, 0x01#8] ++ zeros 15 ++ [0x01#8, 0x00#8, 0x00#8, 0x00#8]) (.withTimerDivideRegDivHi 0x01#128 1#32) = true := by
  refine ⟨?_, ?_, ?_, ?_⟩ <;> decide

/-- What is no operation is refused by name. -/
theorem test_decode_refuses :
    decode [] = .bad .truncated ∧ decode [0x20#8] = .bad .truncated ∧
    decode [0x20#8, 0x00#8, 0x00#8] = .bad .truncated ∧
    decode [0x20#8, 0x00#8, 0x00#8, 0x08#8] = .bad .unusedOperandBits ∧
    decode [0x12#8, 0x04#8] = .bad .unassignedOperation ∧
    decode [0x36#8, 0x08#8] = .bad .unassignedField ∧
    decode [0x00#8, 0x10#8] = .bad .unassignedClass ∧
    decode [0x00#8, 0x04#8, 0x12#8, 0x00#8] = .bad .unassignedType ∧
    decode [0x0C#8, 0x04#8, 0x00#8, 0x00#8] = .bad .slotNamesNoEntry ∧
    decode [0x10#8, 0x04#8, 0x02#8, 0x00#8, 0x01#8, 0x00#8] = .bad .fieldOfAnotherType ∧
    decode [0x03#8, 0x04#8, 0x00#8, 0x00#8, 0x10#8, 0x00#8, 0x00#8, 0x00#8] = .bad .literalTooWide := by decide

/-- The host's own form: the word of a table row's match. -/
theorem test_decode_table_word :
    decodeTableWord 16 0x020 = some (.accId 0#4 (.read 1)) ∧ decodeTableWord 16 0x3F0 = some (.accRsv5 0#4 (.read 1)) := by decide

theorem test_step_runs_the_fetched_word :
    next? (step (State.reset.withFetchWord 16 0x020)) = next? (exec (.accId 0#4 (.read 1)) State.reset) ∧
    next? (step (State.reset.withFetchWord 16 0x3F0)) = next? (exec (.accRsv5 0#4 (.read 1)) State.reset) := by decide

/-! ## The spec's own examples and vectors -/

/-- The examples of R101. -/
theorem test_fields_IdReg :
    resultsOf (exec (.getIdRegId 0xFFFFFFFF#128) State.reset) = some [.field 4 0xF#4] ∧
    resultsOf (exec (.withIdRegId 0#128 0x9#32) State.reset) = some [.slot 0x09000000#128] ∧
    resultsOf (exec (.withIdRegId 0xFFFFFFFF#128 0#32) State.reset) = some [.slot 0xF0FFFFFF#128] := by
  refine ⟨?_, ?_, ?_⟩ <;> decide

/-- The examples of R103, R104. -/
theorem test_fields_VersionReg :
    resultsOf (exec (.getVersionRegVersion 0xFFFFFFFF#128) State.reset) = some [.field 8 0xFF#8] ∧
    resultsOf (exec (.withVersionRegVersion 0#128 0xA5#32) State.reset) = some [.slot 0x000000A5#128] ∧
    resultsOf (exec (.withVersionRegVersion 0xFFFFFFFF#128 0#32) State.reset) = some [.slot 0xFFFFFF00#128] ∧
    resultsOf (exec (.getVersionRegMaxLvtEntry 0xFFFFFFFF#128) State.reset) = some [.field 8 0xFF#8] ∧
    resultsOf (exec (.withVersionRegMaxLvtEntry 0#128 0xA5#32) State.reset) = some [.slot 0x00A50000#128] ∧
    resultsOf (exec (.withVersionRegMaxLvtEntry 0xFFFFFFFF#128 0#32) State.reset) = some [.slot 0xFF00FFFF#128] := by
  refine ⟨?_, ?_, ?_, ?_, ?_, ?_⟩ <;> decide

/-- The examples of R106, R107. -/
theorem test_fields_PriorityReg :
    resultsOf (exec (.getPriorityRegSubclass 0xFFFFFFFF#128) State.reset) = some [.field 4 0xF#4] ∧
    resultsOf (exec (.withPriorityRegSubclass 0#128 0x9#32) State.reset) = some [.slot 0x00000009#128] ∧
    resultsOf (exec (.withPriorityRegSubclass 0xFFFFFFFF#128 0#32) State.reset) = some [.slot 0xFFFFFFF0#128] ∧
    resultsOf (exec (.getPriorityRegClass 0xFFFFFFFF#128) State.reset) = some [.field 4 0xF#4] ∧
    resultsOf (exec (.withPriorityRegClass 0#128 0x9#32) State.reset) = some [.slot 0x00000090#128] ∧
    resultsOf (exec (.withPriorityRegClass 0xFFFFFFFF#128 0#32) State.reset) = some [.slot 0xFFFFFF0F#128] := by
  refine ⟨?_, ?_, ?_, ?_, ?_, ?_⟩ <;> decide

/-- The examples of R109. -/
theorem test_fields_EoiReg :
    resultsOf (exec (.getEoiRegValue 0xFFFFFFFF#128) State.reset) = some [.field 32 0xFFFFFFFF#32] ∧
    resultsOf (exec (.withEoiRegValue 0#128 0xDEADBEEF#32) State.reset) = some [.slot 0xDEADBEEF#128] ∧
    resultsOf (exec (.withEoiRegValue 0xFFFFFFFF#128 0#32) State.reset) = some [.slot 0x00000000#128] := by
  refine ⟨?_, ?_, ?_⟩ <;> decide

/-- The examples of R111. -/
theorem test_fields_LogicalDestReg :
    resultsOf (exec (.getLogicalDestRegLogicalId 0xFFFFFFFF#128) State.reset) = some [.field 8 0xFF#8] ∧
    resultsOf (exec (.withLogicalDestRegLogicalId 0#128 0xA5#32) State.reset) = some [.slot 0xA5000000#128] ∧
    resultsOf (exec (.withLogicalDestRegLogicalId 0xFFFFFFFF#128 0#32) State.reset) = some [.slot 0x00FFFFFF#128] := by
  refine ⟨?_, ?_, ?_⟩ <;> decide

/-- The examples of R113. -/
theorem test_fields_DestFormatReg :
    resultsOf (exec (.getDestFormatRegModel 0xFFFFFFFF#128) State.reset) = some [.field 4 0xF#4] ∧
    resultsOf (exec (.withDestFormatRegModel 0#128 0x9#32) State.reset) = some [.slot 0x90000000#128] ∧
    resultsOf (exec (.withDestFormatRegModel 0xFFFFFFFF#128 0#32) State.reset) = some [.slot 0x0FFFFFFF#128] := by
  refine ⟨?_, ?_, ?_⟩ <;> decide

/-- The examples of R115, R116, R117, R118. -/
theorem test_fields_SpuriousReg :
    resultsOf (exec (.getSpuriousRegVector 0xFFFFFFFF#128) State.reset) = some [.field 8 0xFF#8] ∧
    resultsOf (exec (.withSpuriousRegVector 0#128 0xA5#32) State.reset) = some [.slot 0x000000A5#128] ∧
    resultsOf (exec (.withSpuriousRegVector 0xFFFFFFFF#128 0#32) State.reset) = some [.slot 0xFFFFFF00#128] ∧
    resultsOf (exec (.getSpuriousRegEnable 0xFFFFFFFF#128) State.reset) = some [.field 1 0x1#1] ∧
    resultsOf (exec (.withSpuriousRegEnable 0#128 0x1#32) State.reset) = some [.slot 0x00000100#128] ∧
    resultsOf (exec (.withSpuriousRegEnable 0xFFFFFFFF#128 0#32) State.reset) = some [.slot 0xFFFFFEFF#128] ∧
    resultsOf (exec (.getSpuriousRegFocusCheck 0xFFFFFFFF#128) State.reset) = some [.field 1 0x1#1] ∧
    resultsOf (exec (.withSpuriousRegFocusCheck 0#128 0x1#32) State.reset) = some [.slot 0x00000200#128] ∧
    resultsOf (exec (.withSpuriousRegFocusCheck 0xFFFFFFFF#128 0#32) State.reset) = some [.slot 0xFFFFFDFF#128] ∧
    resultsOf (exec (.getSpuriousRegEoiBcastSuppress 0xFFFFFFFF#128) State.reset) = some [.field 1 0x1#1] ∧
    resultsOf (exec (.withSpuriousRegEoiBcastSuppress 0#128 0x1#32) State.reset) = some [.slot 0x00001000#128] ∧
    resultsOf (exec (.withSpuriousRegEoiBcastSuppress 0xFFFFFFFF#128 0#32) State.reset) = some [.slot 0xFFFFEFFF#128] := by
  refine ⟨?_, ?_, ?_, ?_, ?_, ?_, ?_, ?_, ?_, ?_, ?_, ?_⟩ <;> decide

/-- The examples of R120. -/
theorem test_fields_Bitmask32Reg :
    resultsOf (exec (.getBitmask32RegBits 0xFFFFFFFF#128) State.reset) = some [.field 32 0xFFFFFFFF#32] ∧
    resultsOf (exec (.withBitmask32RegBits 0#128 0xDEADBEEF#32) State.reset) = some [.slot 0xDEADBEEF#128] ∧
    resultsOf (exec (.withBitmask32RegBits 0xFFFFFFFF#128 0#32) State.reset) = some [.slot 0x00000000#128] := by
  refine ⟨?_, ?_, ?_⟩ <;> decide

/-- The examples of R122, R123, R124, R125, R126, R127, R128, R129. -/
theorem test_fields_ErrorStatusReg :
    resultsOf (exec (.getErrorStatusRegSendChecksum 0xFFFFFFFF#128) State.reset) = some [.field 1 0x1#1] ∧
    resultsOf (exec (.withErrorStatusRegSendChecksum 0#128 0x1#32) State.reset) = some [.slot 0x00000001#128] ∧
    resultsOf (exec (.withErrorStatusRegSendChecksum 0xFFFFFFFF#128 0#32) State.reset) = some [.slot 0xFFFFFFFE#128] ∧
    resultsOf (exec (.getErrorStatusRegRecvChecksum 0xFFFFFFFF#128) State.reset) = some [.field 1 0x1#1] ∧
    resultsOf (exec (.withErrorStatusRegRecvChecksum 0#128 0x1#32) State.reset) = some [.slot 0x00000002#128] ∧
    resultsOf (exec (.withErrorStatusRegRecvChecksum 0xFFFFFFFF#128 0#32) State.reset) = some [.slot 0xFFFFFFFD#128] ∧
    resultsOf (exec (.getErrorStatusRegSendAccept 0xFFFFFFFF#128) State.reset) = some [.field 1 0x1#1] ∧
    resultsOf (exec (.withErrorStatusRegSendAccept 0#128 0x1#32) State.reset) = some [.slot 0x00000004#128] ∧
    resultsOf (exec (.withErrorStatusRegSendAccept 0xFFFFFFFF#128 0#32) State.reset) = some [.slot 0xFFFFFFFB#128] ∧
    resultsOf (exec (.getErrorStatusRegRecvAccept 0xFFFFFFFF#128) State.reset) = some [.field 1 0x1#1] ∧
    resultsOf (exec (.withErrorStatusRegRecvAccept 0#128 0x1#32) State.reset) = some [.slot 0x00000008#128] ∧
    resultsOf (exec (.withErrorStatusRegRecvAccept 0xFFFFFFFF#128 0#32) State.reset) = some [.slot 0xFFFFFFF7#128] ∧
    resultsOf (exec (.getErrorStatusRegRedirectableIpi 0xFFFFFFFF#128) State.reset) = some [.field 1 0x1#1] ∧
    resultsOf (exec (.withErrorStatusRegRedirectableIpi 0#128 0x1#32) State.reset) = some [.slot 0x00000010#128] ∧
    resultsOf (exec (.withErrorStatusRegRedirectableIpi 0xFFFFFFFF#128 0#32) State.reset) = some [.slot 0xFFFFFFEF#128] ∧
    resultsOf (exec (.getErrorStatusRegSendIllegalVector 0xFFFFFFFF#128) State.reset) = some [.field 1 0x1#1] ∧
    resultsOf (exec (.withErrorStatusRegSendIllegalVector 0#128 0x1#32) State.reset) = some [.slot 0x00000020#128] ∧
    resultsOf (exec (.withErrorStatusRegSendIllegalVector 0xFFFFFFFF#128 0#32) State.reset) = some [.slot 0xFFFFFFDF#128] ∧
    resultsOf (exec (.getErrorStatusRegRecvIllegalVector 0xFFFFFFFF#128) State.reset) = some [.field 1 0x1#1] ∧
    resultsOf (exec (.withErrorStatusRegRecvIllegalVector 0#128 0x1#32) State.reset) = some [.slot 0x00000040#128] ∧
    resultsOf (exec (.withErrorStatusRegRecvIllegalVector 0xFFFFFFFF#128 0#32) State.reset) = some [.slot 0xFFFFFFBF#128] ∧
    resultsOf (exec (.getErrorStatusRegIllegalRegAddr 0xFFFFFFFF#128) State.reset) = some [.field 1 0x1#1] ∧
    resultsOf (exec (.withErrorStatusRegIllegalRegAddr 0#128 0x1#32) State.reset) = some [.slot 0x00000080#128] ∧
    resultsOf (exec (.withErrorStatusRegIllegalRegAddr 0xFFFFFFFF#128 0#32) State.reset) = some [.slot 0xFFFFFF7F#128] := by
  refine ⟨?_, ?_, ?_, ?_, ?_, ?_, ?_, ?_, ?_, ?_, ?_, ?_, ?_, ?_, ?_, ?_, ?_, ?_, ?_, ?_, ?_, ?_, ?_, ?_⟩ <;> decide

/-- The examples of R131, R132, R133, R134, R135, R136, R137. -/
theorem test_fields_IcrLowReg :
    resultsOf (exec (.getIcrLowRegVector 0xFFFFFFFF#128) State.reset) = some [.field 8 0xFF#8] ∧
    resultsOf (exec (.withIcrLowRegVector 0#128 0xA5#32) State.reset) = some [.slot 0x000000A5#128] ∧
    resultsOf (exec (.withIcrLowRegVector 0xFFFFFFFF#128 0#32) State.reset) = some [.slot 0xFFFFFF00#128] ∧
    resultsOf (exec (.getIcrLowRegDeliveryMode 0xFFFFFFFF#128) State.reset) = some [.field 3 0x7#3] ∧
    resultsOf (exec (.withIcrLowRegDeliveryMode 0#128 0x5#32) State.reset) = some [.slot 0x00000500#128] ∧
    resultsOf (exec (.withIcrLowRegDeliveryMode 0xFFFFFFFF#128 0#32) State.reset) = some [.slot 0xFFFFF8FF#128] ∧
    resultsOf (exec (.getIcrLowRegDestMode 0xFFFFFFFF#128) State.reset) = some [.field 1 0x1#1] ∧
    resultsOf (exec (.withIcrLowRegDestMode 0#128 0x1#32) State.reset) = some [.slot 0x00000800#128] ∧
    resultsOf (exec (.withIcrLowRegDestMode 0xFFFFFFFF#128 0#32) State.reset) = some [.slot 0xFFFFF7FF#128] ∧
    resultsOf (exec (.getIcrLowRegDeliveryStatus 0xFFFFFFFF#128) State.reset) = some [.field 1 0x1#1] ∧
    resultsOf (exec (.withIcrLowRegDeliveryStatus 0#128 0x1#32) State.reset) = some [.slot 0x00001000#128] ∧
    resultsOf (exec (.withIcrLowRegDeliveryStatus 0xFFFFFFFF#128 0#32) State.reset) = some [.slot 0xFFFFEFFF#128] ∧
    resultsOf (exec (.getIcrLowRegLevel 0xFFFFFFFF#128) State.reset) = some [.field 1 0x1#1] ∧
    resultsOf (exec (.withIcrLowRegLevel 0#128 0x1#32) State.reset) = some [.slot 0x00004000#128] ∧
    resultsOf (exec (.withIcrLowRegLevel 0xFFFFFFFF#128 0#32) State.reset) = some [.slot 0xFFFFBFFF#128] ∧
    resultsOf (exec (.getIcrLowRegTriggerMode 0xFFFFFFFF#128) State.reset) = some [.field 1 0x1#1] ∧
    resultsOf (exec (.withIcrLowRegTriggerMode 0#128 0x1#32) State.reset) = some [.slot 0x00008000#128] ∧
    resultsOf (exec (.withIcrLowRegTriggerMode 0xFFFFFFFF#128 0#32) State.reset) = some [.slot 0xFFFF7FFF#128] ∧
    resultsOf (exec (.getIcrLowRegShorthand 0xFFFFFFFF#128) State.reset) = some [.field 2 0x3#2] ∧
    resultsOf (exec (.withIcrLowRegShorthand 0#128 0x2#32) State.reset) = some [.slot 0x00080000#128] ∧
    resultsOf (exec (.withIcrLowRegShorthand 0xFFFFFFFF#128 0#32) State.reset) = some [.slot 0xFFF3FFFF#128] := by
  refine ⟨?_, ?_, ?_, ?_, ?_, ?_, ?_, ?_, ?_, ?_, ?_, ?_, ?_, ?_, ?_, ?_, ?_, ?_, ?_, ?_, ?_⟩ <;> decide

/-- The examples of R139. -/
theorem test_fields_IcrHighReg :
    resultsOf (exec (.getIcrHighRegDestination 0xFFFFFFFF#128) State.reset) = some [.field 8 0xFF#8] ∧
    resultsOf (exec (.withIcrHighRegDestination 0#128 0xA5#32) State.reset) = some [.slot 0xA5000000#128] ∧
    resultsOf (exec (.withIcrHighRegDestination 0xFFFFFFFF#128 0#32) State.reset) = some [.slot 0x00FFFFFF#128] := by
  refine ⟨?_, ?_, ?_⟩ <;> decide

/-- The examples of R141, R142, R143, R144. -/
theorem test_fields_LvtTimerReg :
    resultsOf (exec (.getLvtTimerRegVector 0xFFFFFFFF#128) State.reset) = some [.field 8 0xFF#8] ∧
    resultsOf (exec (.withLvtTimerRegVector 0#128 0xA5#32) State.reset) = some [.slot 0x000000A5#128] ∧
    resultsOf (exec (.withLvtTimerRegVector 0xFFFFFFFF#128 0#32) State.reset) = some [.slot 0xFFFFFF00#128] ∧
    resultsOf (exec (.getLvtTimerRegDeliveryStatus 0xFFFFFFFF#128) State.reset) = some [.field 1 0x1#1] ∧
    resultsOf (exec (.withLvtTimerRegDeliveryStatus 0#128 0x1#32) State.reset) = some [.slot 0x00001000#128] ∧
    resultsOf (exec (.withLvtTimerRegDeliveryStatus 0xFFFFFFFF#128 0#32) State.reset) = some [.slot 0xFFFFEFFF#128] ∧
    resultsOf (exec (.getLvtTimerRegMask 0xFFFFFFFF#128) State.reset) = some [.field 1 0x1#1] ∧
    resultsOf (exec (.withLvtTimerRegMask 0#128 0x1#32) State.reset) = some [.slot 0x00010000#128] ∧
    resultsOf (exec (.withLvtTimerRegMask 0xFFFFFFFF#128 0#32) State.reset) = some [.slot 0xFFFEFFFF#128] ∧
    resultsOf (exec (.getLvtTimerRegTimerMode 0xFFFFFFFF#128) State.reset) = some [.field 1 0x1#1] ∧
    resultsOf (exec (.withLvtTimerRegTimerMode 0#128 0x1#32) State.reset) = some [.slot 0x00020000#128] ∧
    resultsOf (exec (.withLvtTimerRegTimerMode 0xFFFFFFFF#128 0#32) State.reset) = some [.slot 0xFFFDFFFF#128] := by
  refine ⟨?_, ?_, ?_, ?_, ?_, ?_, ?_, ?_, ?_, ?_, ?_, ?_⟩ <;> decide

/-- The examples of R146, R147, R148, R149. -/
theorem test_fields_LvtThermalReg :
    resultsOf (exec (.getLvtThermalRegVector 0xFFFFFFFF#128) State.reset) = some [.field 8 0xFF#8] ∧
    resultsOf (exec (.withLvtThermalRegVector 0#128 0xA5#32) State.reset) = some [.slot 0x000000A5#128] ∧
    resultsOf (exec (.withLvtThermalRegVector 0xFFFFFFFF#128 0#32) State.reset) = some [.slot 0xFFFFFF00#128] ∧
    resultsOf (exec (.getLvtThermalRegDeliveryMode 0xFFFFFFFF#128) State.reset) = some [.field 3 0x7#3] ∧
    resultsOf (exec (.withLvtThermalRegDeliveryMode 0#128 0x5#32) State.reset) = some [.slot 0x00000500#128] ∧
    resultsOf (exec (.withLvtThermalRegDeliveryMode 0xFFFFFFFF#128 0#32) State.reset) = some [.slot 0xFFFFF8FF#128] ∧
    resultsOf (exec (.getLvtThermalRegDeliveryStatus 0xFFFFFFFF#128) State.reset) = some [.field 1 0x1#1] ∧
    resultsOf (exec (.withLvtThermalRegDeliveryStatus 0#128 0x1#32) State.reset) = some [.slot 0x00001000#128] ∧
    resultsOf (exec (.withLvtThermalRegDeliveryStatus 0xFFFFFFFF#128 0#32) State.reset) = some [.slot 0xFFFFEFFF#128] ∧
    resultsOf (exec (.getLvtThermalRegMask 0xFFFFFFFF#128) State.reset) = some [.field 1 0x1#1] ∧
    resultsOf (exec (.withLvtThermalRegMask 0#128 0x1#32) State.reset) = some [.slot 0x00010000#128] ∧
    resultsOf (exec (.withLvtThermalRegMask 0xFFFFFFFF#128 0#32) State.reset) = some [.slot 0xFFFEFFFF#128] := by
  refine ⟨?_, ?_, ?_, ?_, ?_, ?_, ?_, ?_, ?_, ?_, ?_, ?_⟩ <;> decide

/-- The examples of R151, R152, R153, R154. -/
theorem test_fields_LvtPerfReg :
    resultsOf (exec (.getLvtPerfRegVector 0xFFFFFFFF#128) State.reset) = some [.field 8 0xFF#8] ∧
    resultsOf (exec (.withLvtPerfRegVector 0#128 0xA5#32) State.reset) = some [.slot 0x000000A5#128] ∧
    resultsOf (exec (.withLvtPerfRegVector 0xFFFFFFFF#128 0#32) State.reset) = some [.slot 0xFFFFFF00#128] ∧
    resultsOf (exec (.getLvtPerfRegDeliveryMode 0xFFFFFFFF#128) State.reset) = some [.field 3 0x7#3] ∧
    resultsOf (exec (.withLvtPerfRegDeliveryMode 0#128 0x5#32) State.reset) = some [.slot 0x00000500#128] ∧
    resultsOf (exec (.withLvtPerfRegDeliveryMode 0xFFFFFFFF#128 0#32) State.reset) = some [.slot 0xFFFFF8FF#128] ∧
    resultsOf (exec (.getLvtPerfRegDeliveryStatus 0xFFFFFFFF#128) State.reset) = some [.field 1 0x1#1] ∧
    resultsOf (exec (.withLvtPerfRegDeliveryStatus 0#128 0x1#32) State.reset) = some [.slot 0x00001000#128] ∧
    resultsOf (exec (.withLvtPerfRegDeliveryStatus 0xFFFFFFFF#128 0#32) State.reset) = some [.slot 0xFFFFEFFF#128] ∧
    resultsOf (exec (.getLvtPerfRegMask 0xFFFFFFFF#128) State.reset) = some [.field 1 0x1#1] ∧
    resultsOf (exec (.withLvtPerfRegMask 0#128 0x1#32) State.reset) = some [.slot 0x00010000#128] ∧
    resultsOf (exec (.withLvtPerfRegMask 0xFFFFFFFF#128 0#32) State.reset) = some [.slot 0xFFFEFFFF#128] := by
  refine ⟨?_, ?_, ?_, ?_, ?_, ?_, ?_, ?_, ?_, ?_, ?_, ?_⟩ <;> decide

/-- The examples of R156, R157, R158, R159, R160, R161, R162. -/
theorem test_fields_LvtLintReg :
    resultsOf (exec (.getLvtLintRegVector 0xFFFFFFFF#128) State.reset) = some [.field 8 0xFF#8] ∧
    resultsOf (exec (.withLvtLintRegVector 0#128 0xA5#32) State.reset) = some [.slot 0x000000A5#128] ∧
    resultsOf (exec (.withLvtLintRegVector 0xFFFFFFFF#128 0#32) State.reset) = some [.slot 0xFFFFFF00#128] ∧
    resultsOf (exec (.getLvtLintRegDeliveryMode 0xFFFFFFFF#128) State.reset) = some [.field 3 0x7#3] ∧
    resultsOf (exec (.withLvtLintRegDeliveryMode 0#128 0x5#32) State.reset) = some [.slot 0x00000500#128] ∧
    resultsOf (exec (.withLvtLintRegDeliveryMode 0xFFFFFFFF#128 0#32) State.reset) = some [.slot 0xFFFFF8FF#128] ∧
    resultsOf (exec (.getLvtLintRegDeliveryStatus 0xFFFFFFFF#128) State.reset) = some [.field 1 0x1#1] ∧
    resultsOf (exec (.withLvtLintRegDeliveryStatus 0#128 0x1#32) State.reset) = some [.slot 0x00001000#128] ∧
    resultsOf (exec (.withLvtLintRegDeliveryStatus 0xFFFFFFFF#128 0#32) State.reset) = some [.slot 0xFFFFEFFF#128] ∧
    resultsOf (exec (.getLvtLintRegPolarity 0xFFFFFFFF#128) State.reset) = some [.field 1 0x1#1] ∧
    resultsOf (exec (.withLvtLintRegPolarity 0#128 0x1#32) State.reset) = some [.slot 0x00002000#128] ∧
    resultsOf (exec (.withLvtLintRegPolarity 0xFFFFFFFF#128 0#32) State.reset) = some [.slot 0xFFFFDFFF#128] ∧
    resultsOf (exec (.getLvtLintRegRemoteIrr 0xFFFFFFFF#128) State.reset) = some [.field 1 0x1#1] ∧
    resultsOf (exec (.withLvtLintRegRemoteIrr 0#128 0x1#32) State.reset) = some [.slot 0x00004000#128] ∧
    resultsOf (exec (.withLvtLintRegRemoteIrr 0xFFFFFFFF#128 0#32) State.reset) = some [.slot 0xFFFFBFFF#128] ∧
    resultsOf (exec (.getLvtLintRegTriggerMode 0xFFFFFFFF#128) State.reset) = some [.field 1 0x1#1] ∧
    resultsOf (exec (.withLvtLintRegTriggerMode 0#128 0x1#32) State.reset) = some [.slot 0x00008000#128] ∧
    resultsOf (exec (.withLvtLintRegTriggerMode 0xFFFFFFFF#128 0#32) State.reset) = some [.slot 0xFFFF7FFF#128] ∧
    resultsOf (exec (.getLvtLintRegMask 0xFFFFFFFF#128) State.reset) = some [.field 1 0x1#1] ∧
    resultsOf (exec (.withLvtLintRegMask 0#128 0x1#32) State.reset) = some [.slot 0x00010000#128] ∧
    resultsOf (exec (.withLvtLintRegMask 0xFFFFFFFF#128 0#32) State.reset) = some [.slot 0xFFFEFFFF#128] := by
  refine ⟨?_, ?_, ?_, ?_, ?_, ?_, ?_, ?_, ?_, ?_, ?_, ?_, ?_, ?_, ?_, ?_, ?_, ?_, ?_, ?_, ?_⟩ <;> decide

/-- The examples of R164, R165, R166. -/
theorem test_fields_LvtErrorReg :
    resultsOf (exec (.getLvtErrorRegVector 0xFFFFFFFF#128) State.reset) = some [.field 8 0xFF#8] ∧
    resultsOf (exec (.withLvtErrorRegVector 0#128 0xA5#32) State.reset) = some [.slot 0x000000A5#128] ∧
    resultsOf (exec (.withLvtErrorRegVector 0xFFFFFFFF#128 0#32) State.reset) = some [.slot 0xFFFFFF00#128] ∧
    resultsOf (exec (.getLvtErrorRegDeliveryStatus 0xFFFFFFFF#128) State.reset) = some [.field 1 0x1#1] ∧
    resultsOf (exec (.withLvtErrorRegDeliveryStatus 0#128 0x1#32) State.reset) = some [.slot 0x00001000#128] ∧
    resultsOf (exec (.withLvtErrorRegDeliveryStatus 0xFFFFFFFF#128 0#32) State.reset) = some [.slot 0xFFFFEFFF#128] ∧
    resultsOf (exec (.getLvtErrorRegMask 0xFFFFFFFF#128) State.reset) = some [.field 1 0x1#1] ∧
    resultsOf (exec (.withLvtErrorRegMask 0#128 0x1#32) State.reset) = some [.slot 0x00010000#128] ∧
    resultsOf (exec (.withLvtErrorRegMask 0xFFFFFFFF#128 0#32) State.reset) = some [.slot 0xFFFEFFFF#128] := by
  refine ⟨?_, ?_, ?_, ?_, ?_, ?_, ?_, ?_, ?_⟩ <;> decide

/-- The examples of R168. -/
theorem test_fields_TimerCountReg :
    resultsOf (exec (.getTimerCountRegCount 0xFFFFFFFF#128) State.reset) = some [.field 32 0xFFFFFFFF#32] ∧
    resultsOf (exec (.withTimerCountRegCount 0#128 0xDEADBEEF#32) State.reset) = some [.slot 0xDEADBEEF#128] ∧
    resultsOf (exec (.withTimerCountRegCount 0xFFFFFFFF#128 0#32) State.reset) = some [.slot 0x00000000#128] := by
  refine ⟨?_, ?_, ?_⟩ <;> decide

/-- The examples of R170, R171. -/
theorem test_fields_TimerDivideReg :
    resultsOf (exec (.getTimerDivideRegDivLo 0xFFFFFFFF#128) State.reset) = some [.field 2 0x3#2] ∧
    resultsOf (exec (.withTimerDivideRegDivLo 0#128 0x2#32) State.reset) = some [.slot 0x00000002#128] ∧
    resultsOf (exec (.withTimerDivideRegDivLo 0xFFFFFFFF#128 0#32) State.reset) = some [.slot 0xFFFFFFFC#128] ∧
    resultsOf (exec (.getTimerDivideRegDivHi 0xFFFFFFFF#128) State.reset) = some [.field 1 0x1#1] ∧
    resultsOf (exec (.withTimerDivideRegDivHi 0#128 0x1#32) State.reset) = some [.slot 0x00000008#128] ∧
    resultsOf (exec (.withTimerDivideRegDivHi 0xFFFFFFFF#128 0#32) State.reset) = some [.slot 0xFFFFFFF7#128] := by
  refine ⟨?_, ?_, ?_, ?_, ?_, ?_⟩ <;> decide

/-- V1.1 to V1.11. -/
theorem test_V1 :
    getBits 24 4 0#128 = 0x0#4 ∧ getBits 24 4 0xFFFFFFFF#128 = 0xF#4 ∧ getBits 0 32 (BitVec.allOnes 128) = 0xFFFFFFFF#32 ∧
    getBits 0 32 0xFFFFFFFF00000000#128 = 0#32 ∧ withBits 24 4 0#128 0xF#4 = 0x0F000000#128 ∧
    withBits 24 4 (BitVec.allOnes 128) 0#4 = 0xFFFFFFFFFFFFFFFFFFFFFFFFF0FFFFFF#128 ∧
    withBits 0 32 0#128 0xFFFFFFFF#32 = 0xFFFFFFFF#128 ∧
    withBits 0 32 (BitVec.allOnes 128) 0#32 = 0xFFFFFFFFFFFFFFFFFFFFFFFF00000000#128 ∧
    withBits 8 3 (withBits 8 3 0#128 7#3) 2#3 = 0x200#128 ∧ withBits 31 1 0#128 1#1 = 0x80000000#128 := by decide

/-- V1.12. -/
theorem test_V1_eq :
    resultsOf (exec (.opEq 0x03000000#128 0x03000001#128) State.reset) = some [.truth false] ∧
    resultsOf (exec (.opEq 0x03000000#128 0x03000000#128) State.reset) = some [.truth true] := by decide

/-- The examples of R77, R78, R79, R80. -/
theorem test_value_ops :
    resultsOf (exec (.opDefault .idReg) State.reset) = some [.slot 0#128] ∧
    resultsOf (exec (.opGet .idRegId 0x09000000#128) State.reset) = some [.field 4 0x9#4] ∧
    resultsOf (exec (.opWith .idRegId 0x09000000#128 0x13#32) State.reset) = some [.slot 0x03000000#128] ∧
    (next? (exec (.opSet .idRegId 3#32) State.reset)).map State.held = some 0x03000000#128 ∧
    (next? (exec (.opSet .idRegId 3#32) State.reset)).map State.results = some [] := by decide

/-- V2.2, V2.3, V2.4. -/
theorem test_V2 :
    resultsOf (exec (.toBytes 0x03000000#128) State.reset) = some [.bytes ([0x00#8, 0x00#8, 0x00#8, 0x03#8] ++ zeros 12)] ∧
    resultsOf (exec (.toBytes 0x0008DDA5#128) State.reset) = some [.bytes ([0xA5#8, 0xDD#8, 0x08#8] ++ zeros 13)] ∧
    resultsOf (exec (.fromBytes [0x11#8, 0x22#8, 0x33#8, 0x44#8, 0x55#8, 0x66#8, 0x77#8, 0x88#8, 0x99#8, 0xAA#8, 0xBB#8,
      0xCC#8, 0xDD#8, 0xEE#8, 0xFF#8, 0x00#8]) State.reset) =
      some [.slot 0x00FFEEDDCCBBAA998877665544332211#128] := by decide

/-- V5.1, V5.4. -/
theorem test_V5 :
    (([(.icrLowRegVector, 0xA5#32), (.icrLowRegDeliveryMode, 5#32), (.icrLowRegDestMode, 1#32),
       (.icrLowRegDeliveryStatus, 1#32), (.icrLowRegLevel, 1#32), (.icrLowRegTriggerMode, 1#32),
       (.icrLowRegShorthand, 2#32)] : List (Field × RegWord)).foldl (fun x p => withField p.1 x p.2) 0#128) =
      0x0008DDA5#128 ∧
    (([(.lvtLintRegVector, 0x31#32), (.lvtLintRegDeliveryMode, 7#32), (.lvtLintRegPolarity, 1#32),
       (.lvtLintRegTriggerMode, 1#32), (.lvtLintRegMask, 1#32)] : List (Field × RegWord)).foldl
      (fun x p => withField p.1 x p.2) 0#128) = 0x0001A731#128 := by decide

/-- V6.2, V6.3, V6.4, and a count of 0 (R37). -/
theorem test_raw_domain :
    resultsOf (exec (.rd 0x3FF#11 1#11) State.reset) = some [.raw 1 0#8] ∧
    refusal? (exec (.rd 0x3FF#11 2#11) State.reset) = some (.outsideBlock 0x3FF 2) ∧
    refusal? (exec (.rd 0x400#11 1#11) State.reset) = some (.outsideBlock 0x400 1) ∧
    refusal? (exec (.wr 0x3FF#11 [0x01#8, 0x02#8]) State.reset) = some (.outsideBlock 0x3FF 2) ∧
    refusal? (exec (.rd 0x000#11 0#11) State.reset) = some (.outsideBlock 0 0) := by decide

/-- V6.6: a write across two slots. -/
theorem test_V6_write :
    (next? (exec (.wr 0x02E#11 [0x11#8, 0x22#8, 0x33#8, 0x44#8]) State.reset)).map State.mem =
      some [(0x2E, 0x11#8), (0x2F, 0x22#8), (0x30, 0x33#8), (0x31, 0x44#8)] := by decide

def afterV66 : State := blockOf [(0x2E, 0x11#8), (0x2F, 0x22#8), (0x30, 0x33#8), (0x31, 0x44#8)]

theorem test_V6_reads :
    resultsOf (exec (.getf .id .idRegId) afterV66) = some [.field 4 0#4] ∧
    resultsOf (exec (.rds .id) afterV66) = some [.slot (0x2211#128 <<< 112)] ∧
    resultsOf (exec (.getf .ver .versionRegVersion) afterV66) = some [.field 8 0x33#8] ∧
    resultsOf (exec (.rdw .ver) afterV66) = some [.word 0x00004433#32] := by decide

/-- V6.9, the example of R192, and that a written zero leaves nothing listed. -/
theorem test_setf :
    (next? (exec (.setf .id .idRegId 0#32) (blockOf [(0x20, 0xFF#8), (0x21, 0xFF#8), (0x22, 0xFF#8), (0x23, 0xFF#8)]))).map
      State.mem = some [(0x20, 0xFF#8), (0x21, 0xFF#8), (0x22, 0xFF#8), (0x23, 0xF0#8)] ∧
    (next? (exec (.setf .id .idRegId 3#32) State.reset)).map State.mem = some [(0x23, 0x03#8)] ∧
    (next? (exec (.setf .id .idRegId 0#32) (blockOf [(0x23, 0x03#8)]))).map State.mem = some [] := by decide

/-- The examples of R188 and R190, and V6.11's `WRW` of zero. -/
theorem test_wrs_wrw :
    (next? (exec (.wrs .id 0x03000000#128) State.reset)).map State.mem = some [(0x23, 0x03#8)] ∧
    (next? (exec (.wrw .icrh 0x02000000#32) State.reset)).map State.mem = some [(0x313, 0x02#8)] ∧
    (next? (exec (.wrw .eoi 0#32) State.reset)).map State.mem = some [] := by decide

/-- R182: an array entry lies 16 bytes on per index, and `TMR` is an entry of its own. -/
theorem test_array_entries :
    (next? (exec (.wrw (.isr 7#3) 1#32) State.reset)).map State.mem = some [(0x170, 0x01#8)] ∧
    (next? (exec (.wrw (.tmr 0#3) 1#32) State.reset)).map State.mem = some [(0x180, 0x01#8)] ∧
    (next? (exec (.wrw (.irr 3#3) 1#32) State.reset)).map State.mem = some [(0x230, 0x01#8)] := by decide

/-- A record at a row of the operation map: V6.5's first write, and a reserved region storing what is written (V6.7). -/
theorem test_rows :
    (next? (exec (.accTicr 0#4 (.write [0xAB#8])) State.reset)).map State.mem = some [(0x380, 0xAB#8)] ∧
    (next? (exec (.accRsv0 0#5 (.write [0xFF#8, 0xFF#8])) State.reset)).map State.mem = some [(0, 0xFF#8), (1, 0xFF#8)] ∧
    resultsOf (exec (.accIsr 3#3 5#4 (.read 2)) (blockOf [(0x135, 0x77#8)])) = some [.raw 2 0x0077#16] ∧
    refusal? (exec (.accRsv5 15#4 (.read 2)) State.reset) = some (.outsideBlock 0x3FF 2) := by decide

/-- Every row of the operation map reads at its own offset: a one-byte read there sees a byte stored there (R59). -/
theorem test_every_row_reads_its_offset :
    operationMap.all (fun r => decide (resultsOf (exec (r.instr r.pat (.read 1)) (blockOf [(r.pat.toNat, 0x5A#8)])) =
      some [.raw 1 0x5A#8])) = true := by decide

/-- Byte sequences of another length are refused by name (log 6). -/
theorem test_other_lengths_are_refused :
    resultsOf (exec (.rfFromBytes (zeros 4)) State.reset) = none ∧
    refusal? (exec (.rfFromBytes (zeros 4)) State.reset) = some (.wrongByteCount 1024 4) ∧
    refusal? (exec (.fromBytes (zeros 4)) State.reset) = some (.wrongByteCount 16 4) := by decide

/-- The example of R184. -/
theorem test_rf_from_bytes :
    (next? (exec (.rfFromBytes (zeros 0x23 ++ [0x03#8] ++ zeros 988)) (blockOf [(0x3FF, 0xAB#8)]))).map State.mem =
      some [(0x23, 0x03#8)] := by
  set_option maxRecDepth 100000 in decide

/-- R183: the bytes as stored. -/
theorem test_rf_to_bytes :
    resultsOf (exec .rfToBytes (blockOf [(0x23, 0x03#8)])) = some [.bytes (zeros 0x23 ++ [0x03#8] ++ zeros 988)] := by
  set_option maxRecDepth 100000 in decide

theorem test_rf_default : (next? (exec .rfDefault (blockOf [(0x23, 0x03#8)]))).map State.mem = some [] := by
  set_option maxRecDepth 100000 in decide

/-! ## Witnesses: concrete values that meet the hypotheses of the obligations

`sample` is a state in the canonical form with a byte at each end of the block and two in the `ID` slot, one of them
reserved; `oneField` is a clean one. -/

def sample : State := blockOf [(0x000, 0x11#8), (0x020, 0x01#8), (0x023, 0x03#8), (0x3FF, 0xAB#8)]

def oneField : State := blockOf [(0x023, 0x03#8)]

/-- The states every hypothesis `CanonicalMem s` is met by. -/
theorem witness_CanonicalMem : CanonicalMem sample ∧ CanonicalMem oneField ∧ CanonicalMem State.reset := by decide

theorem oneField_clean : Clean oneField := by
  intro a _
  simp only [oneField, blockOf, Memory.read]
  split
  · subst_vars; decide
  · exact BitVec.zero_and

theorem sample_not_clean : ¬ Clean sample := fun h => absurd (h 0x20 (by decide)) (by decide)

/-- `f.regType = e.regType`: ResetStateIsZeroAndClean, FieldAccessOnTheBlock, GettersDoNotSeeReservedBits. -/
theorem witness_FieldOfEntry :
    Field.regType .idRegId = Entry.regType .id ∧ Field.regType .bitmask32RegBits = Entry.regType (.irr 7#3) ∧
    Field.regType .timerDivideRegDivHi = Entry.regType .tdcr := by decide

/-- EveryStepKeepsMemoryCanonical: a step that stores, one that does nothing. -/
theorem witness_EveryStepKeepsMemoryCanonical :
    CanonicalMem { sample with port := encode (.setf .id .idRegId 0#32) } ∧
    (next? (step { sample with port := encode (.setf .id .idRegId 0#32) })).isSome = true ∧ step sample = .next sample :=
  ⟨by decide, by decide, rfl⟩

/-- CanonicalMemoriesReadingAlikeAreEqual. -/
theorem witness_CanonicalMemoriesReadingAlikeAreEqual :
    sample.mem.wf = true ∧ (State.reset.mem.write 0x3FF [0xAB#8]).wf = true ∧
    ∀ a, a < 1024 → sample.mem.read a = sample.mem.read a := ⟨by decide, by decide, fun _ _ => rfl⟩

/-- MemReadAndMemWriteByteByByte: the last byte, the whole block, one past the end, no byte. -/
theorem witness_MemReadAndMemWriteByteByByte :
    CanonicalMem sample ∧ ([0xAB#8] : List Byte).length = (1#11).toNat ∧
    (1 ≤ (1#11).toNat ∧ (0x3FF#11).toNat + (1#11).toNat ≤ 1024) ∧
    (1 ≤ (1024#11).toNat ∧ (0#11).toNat + (1024#11).toNat ≤ 1024) ∧
    ¬ (1 ≤ (2#11).toNat ∧ (0x3FF#11).toNat + (2#11).toNat ≤ 1024) ∧ ([] : List Byte).length = (0#11).toNat ∧
    ¬ (1 ≤ (0#11).toNat ∧ (0#11).toNat + (0#11).toNat ≤ 1024) := by decide

theorem witness_WholeBlockOfBytes : (zeros 1024).length = (1024#11).toNat := by
  simp only [zeros, List.length_replicate]; decide

/-- RawAccessesRepeatAndReadBack. -/
theorem witness_RawAccessesRepeatAndReadBack :
    (next? (exec (.rd 0x3FF#11 1#11) sample)).isSome = true ∧ CanonicalMem sample ∧
    (next? (exec (.wr 0x3FE#11 [0x01#8, 0x02#8]) sample)).isSome = true ∧
    ([0x01#8, 0x02#8] : List Byte).length = (2#11).toNat := by decide

/-- OneByteWriteChangesOneByteOfTheWord, first and last slot. -/
theorem witness_OneByteWriteChangesOneByteOfTheWord :
    0 < 64 ∧ 63 < 64 ∧ CanonicalMem sample ∧
    (next? (exec (.wr (BitVec.ofNat 11 (16 * 63 + 3)) [0xFF#8]) sample)).isSome = true := by decide

/-- GetReturnsTheFieldBits: two slot values that differ in reserved and padding bits only. -/
theorem witness_GetReturnsTheFieldBits :
    (0x03000001#128 &&& RegType.idReg.named) = ((0x1 <<< 127 ||| 0x03000000#128) &&& RegType.idReg.named) ∧
    (0x03000001#128 : Slot) ≠ (0x1 <<< 127 ||| 0x03000000#128) := by decide

/-- WithReplacesTheFieldBits: the bits on both sides of `ID.id`. -/
theorem witness_WithReplacesTheFieldBits :
    ¬ (Field.lsb .idRegId ≤ 23 ∧ 23 < Field.lsb .idRegId + Field.width .idRegId) ∧
    ¬ (Field.lsb .idRegId ≤ 28 ∧ 28 < Field.lsb .idRegId + Field.width .idRegId) := by decide

/-- ToBytesAndFromBytesAreLittleEndian, ByteLawsL7AndL8, ByteSequencesOfAnotherLengthAreRefused. -/
theorem witness_SixteenBytes : (zeros 16).length = 16 ∧ (zeros 15).length ≠ 16 ∧ (zeros 16).length ≠ 1024 := by decide

/-- FieldLawsL1ToL6: adjacent fields of one type. -/
theorem witness_FieldLawsL1ToL6 :
    Field.regType .icrLowRegDeliveryMode = Field.regType .icrLowRegDestMode ∧
    (Field.icrLowRegDeliveryMode : Field) ≠ .icrLowRegDestMode := by decide

/-- SettersAloneKeepPaddingAndReservedZero. -/
theorem witness_SettersAloneKeepPaddingAndReservedZero :
    (0xFFFFFFFF#128).extractLsb' 32 96 = 0#96 ∧
    (∀ p ∈ ([(.spuriousRegEnable, 1#32), (.spuriousRegVector, 0xFF#32)] : List (Field × RegWord)),
      p.1.regType = RegType.spuriousReg) ∧
    ([0xFF#8, 0xFF#8, 0xFF#8, 0xFF#8, 0x01#8] ++ zeros 11).length = 16 ∧
    ([0xFF#8, 0xFF#8, 0xFF#8, 0xFF#8, 0x01#8] ++ zeros 11).getD 4 0#8 ≠ 0#8 := by decide

/-- The ten statements of fields: a canonical state and an entry of each list. -/
theorem witness_FieldRule :
    CanonicalMem sample ∧ (Entry.id, 0x020) ∈ [(Entry.id, 0x020)] ∧
    (Entry.ppr, 0x0A0) ∈ [(Entry.tpr, 0x080), (Entry.apr, 0x090), (Entry.ppr, 0x0A0)] ∧
    (Entry.irr 7#3, 0x200 + 16 * (7#3).toNat) ∈ [(Entry.irr 7#3, 0x200 + 16 * (7#3).toNat)] ∧
    (Entry.lvtl1, 0x360) ∈ [(Entry.lvtl0, 0x350), (Entry.lvtl1, 0x360)] := by decide

/-- WholeBlockConversionsAreLossless, and `RF_FROM_BYTES` where it completes. -/
theorem witness_WholeBlockConversionsAreLossless :
    (zeros 1024).length = 1024 ∧ CanonicalMem sample ∧
    ∃ t, exec (.rfFromBytes (zeros 1024)) sample = .next t := by
  refine ⟨List.length_replicate .., by decide, ?_⟩
  simp only [exec, execRfFromBytes, zeros, List.length_replicate, Config.rfBytes, if_true]
  exact ⟨_, rfl⟩

/-- SlotReadsAndWrites, WordReadsAndWrites. -/
theorem witness_SlotReadsAndWrites :
    CanonicalMem sample ∧ (next? (exec (.wrs .tdcr (BitVec.allOnes 128)) sample)).isSome = true ∧
    (next? (exec (.wrw .id 0xFFFFFFFF#32) sample)).isSome = true := by decide

/-- FieldAccessOnTheBlock, FieldSetNeedsOnlyTheRegisterWord. -/
theorem witness_FieldAccessOnTheBlock :
    Field.regType .spuriousRegEnable = Entry.regType .svr ∧ CanonicalMem sample ∧
    (next? (exec (.setf .svr .spuriousRegEnable 1#32) sample)).isSome = true := by decide

theorem witness_FieldOfAnotherTypeIsRefused : Field.regType .idRegId ≠ Entry.regType .ver := by decide

/-- BlockAccessorLawsB1ToB5: two fields of one entry, and one field of two entries. -/
theorem witness_BlockAccessorLawsB1ToB5 :
    CanonicalMem sample ∧ Field.regType .spuriousRegEnable = Entry.regType .svr ∧
    Field.regType .spuriousRegVector = Entry.regType .svr ∧
    (Entry.svr, Field.spuriousRegEnable) ≠ (Entry.svr, Field.spuriousRegVector) ∧
    (Entry.tpr, Field.priorityRegClass) ≠ (Entry.ppr, Field.priorityRegClass) ∧
    (next? (exec (.setf .svr .spuriousRegEnable 1#32) sample)).isSome = true ∧
    (next? (exec (.getf .svr .spuriousRegEnable) sample)).isSome = true ∧
    (next? (exec (.rd 0#11 1#11) sample)).isSome = true ∧ (next? (exec (.rds .svr) sample)).isSome = true ∧
    (next? (exec (.rdw .svr) sample)).isSome = true := by decide

theorem witness_BlockAccessorLawsB5 : ∃ t, exec .rfToBytes sample = .next t := ⟨_, rfl⟩

/-- The three statements of rows: the last byte inside the block, one past it, and no byte. -/
theorem witness_AccessRule :
    (1 ≤ 977 ∧ 0x020 + (15#4).toNat + 977 ≤ 1024) ∧ ¬ (1 ≤ 978 ∧ 0x020 + (15#4).toNat + 978 ≤ 1024) ∧
    (1 ≤ ([0xFF#8] : List Byte).length ∧ 0x3F0 + (15#4).toNat + ([0xFF#8] : List Byte).length ≤ 1024) ∧
    ¬ (1 ≤ (Access.read 2).size ∧ 0x3F0 + (15#4).toNat + (Access.read 2).size ≤ 1024) ∧
    ¬ (1 ≤ (Access.write []).size ∧ 0x020 + (0#4).toNat + (Access.write []).size ≤ 1024) ∧ CanonicalMem sample := by decide

/-- DecodeOfEncode: well-formed operations at the ends of their operands. -/
theorem witness_DecodeOfEncode :
    Instr.wf (.wr 0x7FF#11 []) = true ∧ Instr.wf (.accRsv5 15#4 (.read 1024)) = true ∧
    Instr.wf (.withTimerCountRegCount 0#128 0xFFFFFFFF#32) = true ∧ Instr.wf (.setf .id .idRegId 0xF#32) = true := by decide

/-- EncodeOfDecode, DecodedOperationsAreWellFormed, StepRunsTheDecodedOperation: bytes that decode, and leave some. -/
theorem witness_Decodes :
    decode [0x20#8, 0x00#8, 0x03#8, 0x00#8, 0x07#8] = .ok (.accId 0#4 (.read 4)) [0x07#8] ∧
    decode ({ sample with port := [0x07#8, 0x04#8, 0x08#8, 0x04#8] } : State).port = .ok .rfDefault [0x08#8, 0x04#8] := by
  decide

/-- StepWithoutAnOperation. -/
theorem witness_StepWithoutAnOperation :
    sample.port = [] ∧ ({ sample with port := [0x12#8, 0x04#8] } : State).port ≠ [] ∧
    decode ({ sample with port := [0x12#8, 0x04#8] } : State).port = .bad .unassignedOperation := by decide

/-- RunPerformsTheHostsOperationsInOrder: an order that completes, and one that ends in a refusal. -/
theorem witness_RunPerformsTheHostsOperationsInOrder :
    (∀ i ∈ ([.setf .id .idRegId 3#32, .rdw .id, .rd 0x023#11 1#11] : List Instr), i.wf = true) ∧
    (next? (execAll [.setf .id .idRegId 3#32, .rdw .id, .rd 0x023#11 1#11] { State.reset with port := [] })).isSome = true ∧
    (∀ i ∈ ([.rdw .id, .rd 0x400#11 1#11] : List Instr), i.wf = true) ∧
    refusal? (execAll [.rdw .id, .rd 0x400#11 1#11] { State.reset with port := [] }) = some (.outsideBlock 0x400 1) := by
  decide

/-- EffectsAreThoseOfTheTransactionRecords, OperationsLeaveThePortAlone. -/
theorem witness_Completes :
    (next? (exec (.setf .id .idRegId 3#32) sample)).isSome = true ∧
    (next? (exec (.getIdRegId 0#128) sample)).isSome = true ∧
    (next? (exec (.accRsv5 15#4 (.write [0xFF#8])) sample)).isSome = true := by decide

/-- CompletesExactlyInsideTheDomain: both sides. -/
theorem witness_CompletesExactlyInsideTheDomain :
    Instr.wf (.rd 0x3FF#11 1#11) = true ∧ InDomain (.rd 0x3FF#11 1#11) sample ∧
    Instr.wf (.rd 0x3FF#11 2#11) = true ∧ ¬ InDomain (.rd 0x3FF#11 2#11) sample := by
  refine ⟨by decide, ?_, by decide, fun h => ?_⟩
  · intro t ht
    cases ht with
    | head => decide
    | tail _ h => cases h
  · exact absurd (h ⟨0x3FF, .read 2⟩ (List.Mem.head _)) (by decide)

/-- AccessorsKeepTheBlockClean: a clean state, a field set on it, and a raw write that makes it unclean. -/
theorem witness_AccessorsKeepTheBlockClean :
    CanonicalMem oneField ∧ Clean oneField ∧ (next? (exec (.setf .id .idRegId 5#32) oneField)).isSome = true ∧
    exec (.wr 0x020#11 [0x01#8]) oneField = .next (oneField.store 0x020 [0x01#8]) ∧
    ¬ Clean (oneField.store 0x020 [0x01#8]) :=
  ⟨by decide, oneField_clean, by decide, rfl, fun h => absurd (h 0x20 (by decide)) (by decide)⟩

theorem witness_RfDefaultCompletes : ∃ t, exec .rfDefault oneField = .next t := ⟨_, rfl⟩

/-- HostRespectingReservedBitsKeepsTheBlockClean: a raw write of the named bits of `ID` alone. -/
theorem witness_HostRespectingReservedBitsKeepsTheBlockClean :
    CanonicalMem oneField ∧ Clean oneField ∧
    decode [0x0B#8, 0x04#8, 0x23#8, 0x00#8, 0x01#8, 0x00#8, 0x05#8] = .ok (.wr 0x023#11 [0x05#8]) [] ∧
    RespectsReserved (.wr 0x023#11 [0x05#8]) oneField ∧
    (next? (step { oneField with port := [0x0B#8, 0x04#8, 0x23#8, 0x00#8, 0x01#8, 0x00#8, 0x05#8] })).isSome = true := by
  refine ⟨by decide, oneField_clean, by decide, ?_, by decide⟩
  intro t ht
  cases ht with
  | head =>
    intro k hk
    have hk : k < 1 := hk
    obtain rfl : k = 0 := by omega
    decide
  | tail _ h => cases h

/-- GettersDoNotSeeReservedBits: two blocks that differ in a reserved byte of the slot. -/
theorem witness_GettersDoNotSeeReservedBits :
    Field.regType .idRegId = Entry.regType .id ∧
    sample.mem.slotAt (Entry.offset .id) &&& (Entry.regType .id).named =
      oneField.mem.slotAt (Entry.offset .id) &&& (Entry.regType .id).named ∧
    sample.mem.slotAt (Entry.offset .id) ≠ oneField.mem.slotAt (Entry.offset .id) := by decide

/-- HeldValueIsTheLastSlotReceived: an operation of each of the three kinds. -/
theorem witness_HeldValueIsTheLastSlotReceived :
    (next? (exec (.rds .id) oneField)).map State.held = some 0x03000000#128 ∧
    (next? (exec (.wrw .id 0#32) oneField)).map State.held = some 0#128 ∧
    (next? (exec (.opSet .idRegId 1#32) oneField)).map State.held = some 0x01000000#128 := by decide

/-- LaunchNeedsAWholeAlignedMapping: a good mapping, one byte too few, a misaligned base. -/
theorem witness_LaunchNeedsAWholeAlignedMapping :
    ((Mapping.mk 0xFEE00000 1024).base % 16 = 0 ∧ 1024 ≤ (Mapping.mk 0xFEE00000 1024).extent) ∧
    ¬ ((Mapping.mk 0xFEE00000 1023).base % 16 = 0 ∧ 1024 ≤ (Mapping.mk 0xFEE00000 1023).extent) ∧
    ¬ ((Mapping.mk 0xFEE00008 1024).base % 16 = 0 ∧ 1024 ≤ (Mapping.mk 0xFEE00008 1024).extent) := by decide

end Sys2Proof.Tests
end

section
/-! The canonical byte list: a cell more, and the bytes determine the list (10_state.md R13). -/

namespace Sys2Proof.Machine

theorem Memory.wfFrom_cons_iff (lo x : Nat) (b : Byte) (m : Memory) :
    Memory.wfFrom lo ((x, b) :: m) = true ↔
      lo ≤ x ∧ x < 1024 ∧ b ≠ 0x00#8 ∧ Memory.wfFrom (x + 1) m = true := by
  simp only [Memory.wfFrom, Bool.and_eq_true, decide_eq_true_eq, bne_iff_ne, and_assoc]
  rfl

@[simp] theorem Memory.read_cons_self (x : Nat) (b : Byte) (m : Memory) : Memory.read ((x, b) :: m) x = b := by
  rw [Memory.read_cons, if_pos rfl]

/-- A list whose first cell lies below `lo` holds a byte there that no list from `lo` on has. -/
theorem Memory.read_ne_of_head_lt {lo x : Nat} {b : Byte} {m m' : Memory} (hx : x < lo) (hb : b ≠ 0x00#8)
    (h' : Memory.wfFrom lo m' = true) : Memory.read ((x, b) :: m) x ≠ m'.read x := by
  rwa [Memory.read_cons_self, Memory.read_of_lt h' hx]

/-- Two canonical lists that read alike are equal: their first cells lie at the same offset, since a list reads as the
unlisted byte below its own first cell and as another byte at it. -/
theorem Memory.eq_of_read_eq {lo lo' : Nat} {m m' : Memory} (h : Memory.wfFrom lo m = true)
    (h' : Memory.wfFrom lo' m' = true) (hr : ∀ a, a < 1024 → m.read a = m'.read a) : m = m' := by
  induction m generalizing lo lo' m' with
  | nil =>
    cases m' with
    | nil => rfl
    | cons d m' =>
      obtain ⟨y, c⟩ := d
      obtain ⟨-, hy, hc, -⟩ := (Memory.wfFrom_cons_iff ..).mp h'
      exact absurd (hr y hy).symm (Memory.read_ne_of_head_lt y.lt_succ_self hc rfl)
  | cons d m ih =>
    obtain ⟨x, b⟩ := d
    obtain ⟨-, hx, hb, hm⟩ := (Memory.wfFrom_cons_iff ..).mp h
    cases m' with
    | nil => exact absurd (hr x hx) (Memory.read_ne_of_head_lt x.lt_succ_self hb rfl)
    | cons d' m' =>
      obtain ⟨y, c⟩ := d'
      obtain ⟨-, hy, hc, hm'⟩ := (Memory.wfFrom_cons_iff ..).mp h'
      rcases Nat.lt_trichotomy x y with hxy | rfl | hxy
      · have below : Memory.wfFrom y ((y, c) :: m') = true :=
          (Memory.wfFrom_cons_iff ..).mpr ⟨le_rfl, hy, hc, hm'⟩
        exact absurd (hr x hx) (Memory.read_ne_of_head_lt hxy hb below)
      · have heads : b = c := by simpa using hr x hx
        have tails : m = m' := ih hm hm' fun a ha => by
          by_cases hax : x = a
          · subst hax
            rw [Memory.read_of_lt hm x.lt_succ_self, Memory.read_of_lt hm' x.lt_succ_self]
          · simpa [Memory.read_cons, hax] using hr a ha
        rw [heads, tails]
      · have below : Memory.wfFrom x ((x, b) :: m) = true :=
          (Memory.wfFrom_cons_iff ..).mpr ⟨le_rfl, hx, hb, hm⟩
        exact absurd (hr y hy).symm (Memory.read_ne_of_head_lt hxy hc below)

/-- Settles O2: the reset memory lists no byte. -/
theorem resetMemoryIsCanonical : Obligations.ResetMemoryIsCanonical := State.reset_wf

/-- Settles O4, by induction on the first list (`Memory.eq_of_read_eq`). -/
theorem canonicalMemoriesReadingAlikeAreEqual : Obligations.CanonicalMemoriesReadingAlikeAreEqual :=
  fun _ _ h h' hr => Memory.eq_of_read_eq h h' hr

end Sys2Proof.Machine
end

section
/-! What a completed operation can do, said once for all 159 of them, and what a step can do. -/

namespace Sys2Proof.Machine

/-- No record of the list writes. -/
def OnlyReads (xs : List Txn) : Prop := ∀ x ∈ xs, ∃ n, x.access = .read n

theorem onlyReads_nil : OnlyReads [] := by simp [OnlyReads]

theorem onlyReads_read (a n : Nat) : OnlyReads [⟨a, .read n⟩] := by simp [OnlyReads]

/-- The next states a completed operation `i` can have from `s`. The block changes in one way only: by the one record of
the operation's expansion that writes, whose bytes lie in the block. -/
inductive Effect (i : Instr) (s : State) : State → Prop
  /-- A value that is no slot value goes to the host. -/
  | ret (r : Result) (reads : OnlyReads (transactions i s)) (hr : ∀ v, r ≠ .slot v) : Effect i s (s.ret r)
  /-- A slot value goes to the host, which holds it from now on. -/
  | give (v : Slot) (reads : OnlyReads (transactions i s)) : Effect i s (s.give v)
  /-- The held value is replaced by a setter of it (40_value_ops.md R80). -/
  | set (f : Field) (v : RegWord) (hi : i = .opSet f v) : Effect i s { s with held := withField f s.held v }
  /-- The bytes of the operation's one write are stored, after nothing but reads. -/
  | store (a : Nat) (d : List Byte) (rs : List Txn) (reads : OnlyReads rs)
      (records : transactions i s = rs ++ [⟨a, .write d⟩]) (inside : a + d.length ≤ 1024) : Effect i s (s.store a d)

section
variable {i : Instr} {s s' : State}

theorem Effect.of_getValue {f : Field} {x : Slot} (h : getValue f x s = .next s') (hx : transactions i s = []) :
    Effect i s s' := by
  cases h
  exact .ret _ (hx ▸ onlyReads_nil) nofun

theorem Effect.of_withValue {f : Field} {x : Slot} {v : RegWord} (h : withValue f x v s = .next s')
    (hx : transactions i s = []) : Effect i s s' := by
  cases h
  exact .give _ (hx ▸ onlyReads_nil)

theorem Effect.of_txn {a : Nat} {t : Access} (h : txn a t s = .next s') (hx : transactions i s = [⟨a, t⟩]) :
    Effect i s s' := by
  obtain ⟨inside, -, -, ⟨n, rfl, rfl⟩ | ⟨d, rfl, rfl⟩⟩ := txn_next h
  · exact .ret _ (hx ▸ onlyReads_read a n) nofun
  · exact .store a d [] onlyReads_nil hx ((inBlock_iff ..).mp inside).2

theorem Effect.of_fromBytes {b : List Byte} (h : exec (.fromBytes b) s = .next s') : Effect (.fromBytes b) s s' := by
  simp only [exec, execFromBytes] at h
  split at h
  · cases h
    exact .give _ onlyReads_nil
  · cases h

theorem rfDefault_next (h : exec .rfDefault s = .next s') : s' = s.store 0 (List.replicate 1024 0#8) :=
  (Host.Outcome.next.inj h).symm

theorem Effect.of_rfDefault (h : exec .rfDefault s = .next s') : Effect .rfDefault s s' := by
  rw [rfDefault_next h]
  exact .store 0 _ [] onlyReads_nil rfl (by rw [List.length_replicate])

theorem Effect.of_rfFromBytes {b : List Byte} (h : exec (.rfFromBytes b) s = .next s') :
    Effect (.rfFromBytes b) s s' := by
  simp only [exec, execRfFromBytes] at h
  split at h
  case isTrue hlen =>
    cases h
    exact .store 0 b [] onlyReads_nil rfl (by rw [hlen]; decide)
  case isFalse => cases h

theorem Effect.of_wrs {e : Entry} {v : Slot} (h : exec (.wrs e v) s = .next s') : Effect (.wrs e v) s s' := by
  cases h
  exact .store e.offset _ [] onlyReads_nil rfl (by simpa using entry_in_block e)

theorem Effect.of_wrw {e : Entry} {v : RegWord} (h : exec (.wrw e v) s = .next s') : Effect (.wrw e v) s s' := by
  have he := entry_in_block e
  cases h
  exact .store e.offset _ [] onlyReads_nil rfl (by rw [wordBytes_length]; omega)

theorem Effect.of_getf {e : Entry} {f : Field} (h : exec (.getf e f) s = .next s') : Effect (.getf e f) s s' := by
  obtain ⟨-, rfl⟩ := getf_next h
  exact .ret _ (onlyReads_read _ _) nofun

theorem Effect.of_setf {e : Entry} {f : Field} {v : RegWord} (h : exec (.setf e f v) s = .next s') :
    Effect (.setf e f v) s s' := by
  obtain ⟨-, rfl⟩ := setf_next h
  exact .store e.offset _ [_] (onlyReads_read _ _) rfl (by simpa using entry_in_block e)

end

/-- Every completed operation does one of the four things: the generic operations one by one, a row of the operation map
as the record it is, a getter or setter row as the shared getter or setter. -/
theorem exec_effect {i : Instr} {s s' : State} (h : exec i s = .next s') : Effect i s s' := by
  cases i with
  | opDefault t => cases h; exact .give _ onlyReads_nil
  | opGet f x => exact .of_getValue h rfl
  | opWith f x v => exact .of_withValue h rfl
  | opSet f v => cases h; exact .set f v rfl
  | toBytes x => cases h; exact .ret _ onlyReads_nil nofun
  | fromBytes b => exact .of_fromBytes h
  | opEq x y => cases h; exact .ret _ onlyReads_nil nofun
  | rfDefault => exact .of_rfDefault h
  | rfToBytes => cases h; exact .ret _ (onlyReads_read _ _) nofun
  | rfFromBytes b => exact .of_rfFromBytes h
  | rd addr n => exact .of_txn h rfl
  | wr addr d => exact .of_txn h rfl
  | rds e => cases h; exact .give _ (onlyReads_read _ _)
  | wrs e v => exact .of_wrs h
  | rdw e => cases h; exact .ret _ (onlyReads_read _ _) nofun
  | wrw e v => exact .of_wrw h
  | getf e f => exact .of_getf h
  | setf e f v => exact .of_setf h
  | accId | accVer | accTpr | accApr | accPpr | accEoi | accLdr | accDfr | accSvr | accIsr | accTmr | accIrr
    | accEsr | accIcrl | accIcrh | accLvtt | accLvtth | accLvtpc | accLvtl0 | accLvtl1 | accLvterr | accTicr
    | accTccr | accTdcr | accRsv0 | accRsv1 | accRsv2 | accRsv3Slot41 | accRsv3Slots42To43 | accRsv3Slots44To47
    | accRsv4Slots58To59 | accRsv4Slots60To61 | accRsv5 =>
    exact .of_txn h rfl
  | getIdRegId | getVersionRegVersion | getVersionRegMaxLvtEntry | getPriorityRegSubclass | getPriorityRegClass
    | getEoiRegValue | getLogicalDestRegLogicalId | getDestFormatRegModel | getSpuriousRegVector
    | getSpuriousRegEnable | getSpuriousRegFocusCheck | getSpuriousRegEoiBcastSuppress | getBitmask32RegBits
    | getErrorStatusRegSendChecksum | getErrorStatusRegRecvChecksum | getErrorStatusRegSendAccept
    | getErrorStatusRegRecvAccept | getErrorStatusRegRedirectableIpi | getErrorStatusRegSendIllegalVector
    | getErrorStatusRegRecvIllegalVector | getErrorStatusRegIllegalRegAddr | getIcrLowRegVector
    | getIcrLowRegDeliveryMode | getIcrLowRegDestMode | getIcrLowRegDeliveryStatus | getIcrLowRegLevel
    | getIcrLowRegTriggerMode | getIcrLowRegShorthand | getIcrHighRegDestination | getLvtTimerRegVector
    | getLvtTimerRegDeliveryStatus | getLvtTimerRegMask | getLvtTimerRegTimerMode | getLvtThermalRegVector
    | getLvtThermalRegDeliveryMode | getLvtThermalRegDeliveryStatus | getLvtThermalRegMask | getLvtPerfRegVector
    | getLvtPerfRegDeliveryMode | getLvtPerfRegDeliveryStatus | getLvtPerfRegMask | getLvtLintRegVector
    | getLvtLintRegDeliveryMode | getLvtLintRegDeliveryStatus | getLvtLintRegPolarity | getLvtLintRegRemoteIrr
    | getLvtLintRegTriggerMode | getLvtLintRegMask | getLvtErrorRegVector | getLvtErrorRegDeliveryStatus
    | getLvtErrorRegMask | getTimerCountRegCount | getTimerDivideRegDivLo | getTimerDivideRegDivHi =>
    exact .of_getValue h rfl
  | withIdRegId | withVersionRegVersion | withVersionRegMaxLvtEntry | withPriorityRegSubclass | withPriorityRegClass
    | withEoiRegValue | withLogicalDestRegLogicalId | withDestFormatRegModel | withSpuriousRegVector
    | withSpuriousRegEnable | withSpuriousRegFocusCheck | withSpuriousRegEoiBcastSuppress | withBitmask32RegBits
    | withErrorStatusRegSendChecksum | withErrorStatusRegRecvChecksum | withErrorStatusRegSendAccept
    | withErrorStatusRegRecvAccept | withErrorStatusRegRedirectableIpi | withErrorStatusRegSendIllegalVector
    | withErrorStatusRegRecvIllegalVector | withErrorStatusRegIllegalRegAddr | withIcrLowRegVector
    | withIcrLowRegDeliveryMode | withIcrLowRegDestMode | withIcrLowRegDeliveryStatus | withIcrLowRegLevel
    | withIcrLowRegTriggerMode | withIcrLowRegShorthand | withIcrHighRegDestination | withLvtTimerRegVector
    | withLvtTimerRegDeliveryStatus | withLvtTimerRegMask | withLvtTimerRegTimerMode | withLvtThermalRegVector
    | withLvtThermalRegDeliveryMode | withLvtThermalRegDeliveryStatus | withLvtThermalRegMask | withLvtPerfRegVector
    | withLvtPerfRegDeliveryMode | withLvtPerfRegDeliveryStatus | withLvtPerfRegMask | withLvtLintRegVector
    | withLvtLintRegDeliveryMode | withLvtLintRegDeliveryStatus | withLvtLintRegPolarity | withLvtLintRegRemoteIrr
    | withLvtLintRegTriggerMode | withLvtLintRegMask | withLvtErrorRegVector | withLvtErrorRegDeliveryStatus
    | withLvtErrorRegMask | withTimerCountRegCount | withTimerDivideRegDivLo | withTimerDivideRegDivHi =>
    exact .of_withValue h rfl

theorem fetch_of_empty {s : State} (h : s.port = []) : fetch s = none := by simp [fetch, h]

theorem fetch_of_pending {s : State} (h : s.port ≠ []) : fetch s = some (decode s.port) := by
  obtain ⟨b, bs, hp⟩ := List.exists_cons_of_ne_nil h
  simp [fetch, hp]

theorem step_of_empty {s : State} (h : s.port = []) : step s = .next s := by rw [step, fetch_of_empty h]

theorem step_of_bad {s : State} {why : DecodeError} (h : s.port ≠ []) (hd : decode s.port = .bad why) :
    step s = .refused (.undecodable why) := by rw [step, fetch_of_pending h, hd]

/-- A step with a next state does nothing, or performs the operation at the port. -/
theorem step_next {s s' : State} (h : step s = .next s') :
    s' = s ∨ ∃ i rest, decode s.port = .ok i rest ∧ exec i (s.advance rest) = .next s' := by
  by_cases hp : s.port = []
  · rw [step_of_empty hp] at h
    cases h
    exact .inl rfl
  · cases hd : decode s.port with
    | bad why => rw [step_of_bad hp hd] at h; cases h
    | ok i rest =>
      rw [step, fetch_of_pending hp, hd] at h
      exact .inr ⟨i, rest, rfl, h⟩

/-- Settles O49: what the port holds decides the step (`step_of_empty`, `step_of_bad`). -/
theorem stepWithoutAnOperation : Obligations.StepWithoutAnOperation :=
  fun _ => ⟨step_of_empty, fun _ => step_of_bad⟩

/-- The only change of the block is a write inside it, which keeps the canonical form. -/
theorem exec_keeps_canonical {i : Instr} {s s' : State} (hs : CanonicalMem s) (h : exec i s = .next s') :
    CanonicalMem s' := by
  cases exec_effect h with
  | ret | give | set => exact hs
  | store a d _ _ _ inside => exact Memory.wf_write hs inside

/-- Settles O3: a step does nothing or performs one operation (`step_next`), and that keeps the memory canonical. -/
theorem everyStepKeepsMemoryCanonical : Obligations.EveryStepKeepsMemoryCanonical := by
  intro s t hs h
  obtain rfl | ⟨i, rest, -, h⟩ := step_next h
  · exact hs
  · exact exec_keeps_canonical (s := s.advance rest) hs h

end Sys2Proof.Machine
end

section
/-! Clean blocks (10_state.md R28): what a write must be to keep the block clean, and that a field set is one. -/

namespace Sys2Proof.Machine

/-- A write into the block leaves it clean when it writes zero to the reserved bits it covers and the bytes it leaves
are clean. -/
theorem clean_store {s : State} {a : Nat} {d : List Byte} (hs : CanonicalMem s) (inside : a + d.length ≤ 1024)
    (covered : Txn.ZeroReserved ⟨a, .write d⟩)
    (rest : ∀ c, c < 1024 → ¬ (a ≤ c ∧ c < a + d.length) → s.mem.read c &&& reservedByte c = 0#8) :
    Clean (s.store a d) := by
  intro c hc
  rw [State.store_mem, Memory.read_write hs inside]
  split
  case isTrue hin =>
    obtain ⟨k, rfl⟩ := Nat.exists_eq_add_of_le hin.1
    rw [Nat.add_sub_cancel_left]
    exact covered k (by omega)
  case isFalse hout => exact rest c hc hout

theorem clean_reset : Clean State.reset := fun _ _ => BitVec.zero_and

/-- From a clean block, only an operation with a record that writes a non-zero reserved bit leaves it unclean. -/
theorem exec_keeps_clean {i : Instr} {s s' : State} (hs : CanonicalMem s) (hc : Clean s) (h : exec i s = .next s')
    (hz : ∀ x ∈ transactions i s, x.ZeroReserved) : Clean s' := by
  cases exec_effect h with
  | ret | give | set => exact hc
  | store a d rs _ records inside =>
    exact clean_store hs inside (hz _ (by simp [records])) fun c hb _ => hc c hb

/-- The reserved bits of byte `k` of an entry's slot are those the type names no field for (30_encoding.md R60). -/
theorem reservedByte_entry (e : Entry) {k : Nat} (hk : k < 16) :
    reservedByte (e.offset + k) = (~~~e.regType.named).extractLsb' (8 * k) 8 := by
  have ha := entry_aligned e
  have hslot : (e.offset + k) / 16 = e.slot := by unfold Entry.slot Config.slotBytes; omega
  have hbyte : (e.offset + k) % 16 = k := by omega
  rw [reservedByte, reservedMask, hslot, hbyte, entry_ofSlot_slot]

theorem field_mem_fields (f : Field) : f ∈ f.regType.fields := by
  cases f <;> simp [Field.regType, RegType.fields]

theorem slotMask_getLsbD (f : Field) {i : Nat} (hi : f.lsb ≤ i ∧ i < f.lsb + f.width) :
    f.slotMask.getLsbD i = true := by
  have hf := field_in_word f
  simp [Field.slotMask, show i < 128 by omega, show ¬ i < f.lsb by omega, show i - f.lsb < f.width by omega]

theorem foldr_slotMask_getLsbD {f : Field} {fs : List Field} (hf : f ∈ fs) {i : Nat}
    (hi : f.lsb ≤ i ∧ i < f.lsb + f.width) :
    (fs.foldr (fun g m => g.slotMask ||| m) 0#128).getLsbD i = true := by
  induction fs with
  | nil => cases hf
  | cons g gs ih =>
    rw [List.foldr_cons, BitVec.getLsbD_or, Bool.or_eq_true]
    rcases List.mem_cons.mp hf with rfl | hg
    · exact .inl (slotMask_getLsbD f hi)
    · exact .inr (ih hg)

/-- The type of a field names every bit the field takes. -/
theorem named_getLsbD (f : Field) {i : Nat} (hi : f.lsb ≤ i ∧ i < f.lsb + f.width) :
    f.regType.named.getLsbD i = true := foldr_slotMask_getLsbD (field_mem_fields f) hi

/-- A field set of a slot keeps the bits that the field's type reserves. -/
theorem withField_reserved (f : Field) (x : Slot) (v : RegWord) :
    withField f x v &&& ~~~f.regType.named = x &&& ~~~f.regType.named := by
  refine BitVec.eq_of_getLsbD_eq fun i hi => ?_
  rw [BitVec.getLsbD_and, BitVec.getLsbD_and, withField_getLsbD]
  split
  case isTrue hin => simp [named_getLsbD f hin]
  case isFalse => rfl

/-- Byte `k` of a field set of an entry's slot has the reserved bits the block's byte has. -/
theorem setf_byte_reserved {e : Entry} {f : Field} (hf : f.regType = e.regType) (m : Memory) (v : RegWord) {k : Nat}
    (hk : k < 16) :
    (slotBytes (withField f (m.slotAt e.offset) v)).getD k 0#8 &&& reservedByte (e.offset + k) =
      m.read (e.offset + k) &&& reservedByte (e.offset + k) := by
  rw [slotBytes, bytesOf_getD _ _ _ hk, reservedByte_entry e hk, ← Memory.valAt_byte m e.offset 16 k hk,
    ← BitVec.extractLsb'_and, ← BitVec.extractLsb'_and, ← hf, withField_reserved]
  rfl

theorem setf_keeps_clean {e : Entry} {f : Field} {v : RegWord} {s s' : State} (hs : CanonicalMem s) (hc : Clean s)
    (h : exec (.setf e f v) s = .next s') : Clean s' := by
  obtain ⟨hf, rfl⟩ := setf_next h
  have he := entry_in_block e
  refine clean_store hs (by simpa using he) (fun k hk => ?_) fun c hb _ => hc c hb
  rw [slotBytes_length] at hk
  rw [setf_byte_reserved (by simpa [Field.isOf] using hf) s.mem v hk]
  exact hc _ (show e.offset + k < 1024 by omega)

/-- The default construction makes any block clean (43_regfile_ops.md R181). -/
theorem rfDefault_clean {s s' : State} (hs : CanonicalMem s) (h : exec .rfDefault s = .next s') : Clean s' := by
  rw [rfDefault_next h]
  refine clean_store hs (by rw [List.length_replicate]) (fun k hk => ?_) fun c hb hout => ?_
  · rw [List.length_replicate] at hk
    rw [List.getD_replicate _ hk]
    exact BitVec.zero_and
  · rw [List.length_replicate] at hout
    omega

/-- Settles O54: a field set writes back the reserved bits it read, the default construction writes zeros, and any other
write is judged by its own record (`exec_keeps_clean`). -/
theorem accessorsKeepTheBlockClean : Obligations.AccessorsKeepTheBlockClean := by
  refine ⟨clean_reset, fun s t e f v => setf_keeps_clean, fun s t => rfDefault_clean, fun s t i hs hc h hn => ?_⟩
  by_contra hz
  push Not at hz
  exact hn (exec_keeps_clean hs hc h hz)

end Sys2Proof.Machine
end

section
/-! Raw accesses to the block (20_memory.md R37): one rule per outcome of a transaction, and what a write makes of the
block's bytes and of a register word. -/

namespace Sys2Proof.Machine

theorem txn_read {a n : Nat} (h : inBlock a n = true) (s : State) :
    txn a (.read n) s = .next (s.ret (.raw n (s.mem.valAt a n))) := if_pos h

theorem txn_write {a : Nat} {d : List Byte} (h : inBlock a d.length = true) (s : State) :
    txn a (.write d) s = .next (s.store a d) := if_pos h

theorem txn_outside {a : Nat} {t : Access} (h : ¬ inBlock a t.size = true) (s : State) :
    txn a t s = .refused (.outsideBlock a t.size) := if_neg h

theorem exec_rd (addr n : BitVec 11) (s : State) : exec (.rd addr n) s = txn addr.toNat (.read n.toNat) s := rfl

theorem exec_wr (addr : BitVec 11) (d : List Byte) (s : State) :
    exec (.wr addr d) s = txn addr.toNat (.write d) s := rfl

theorem Memory.read_write_inside {m : Memory} (h : m.wf = true) {a : Nat} {d : List Byte} (ha : a + d.length ≤ 1024)
    {k : Nat} (hk : k < d.length) : (m.write a d).read (a + k) = d.getD k 0#8 := by
  rw [Memory.read_write h ha, if_pos ⟨by omega, by omega⟩, Nat.add_sub_cancel_left]

theorem Memory.read_write_outside {m : Memory} (h : m.wf = true) {a : Nat} {d : List Byte} (ha : a + d.length ≤ 1024)
    {c : Nat} (hc : ¬ (a ≤ c ∧ c < a + d.length)) : (m.write a d).read c = m.read c := by
  rw [Memory.read_write h ha, if_neg hc]

/-- A write repeated changes nothing: the two blocks are canonical and read alike. -/
theorem Memory.write_write {m : Memory} (h : m.wf = true) {a : Nat} {d : List Byte} (ha : a + d.length ≤ 1024) :
    (m.write a d).write a d = m.write a d := by
  have once : (m.write a d).wf = true := Memory.wf_write h ha
  refine Memory.eq_of_read_eq (Memory.wf_write once ha) once fun c _ => ?_
  by_cases hc : a ≤ c ∧ c < a + d.length
  · obtain ⟨k, rfl⟩ := Nat.exists_eq_add_of_le hc.1
    have hk : k < d.length := by omega
    rw [Memory.read_write_inside once ha hk, Memory.read_write_inside h ha hk]
  · exact Memory.read_write_outside once ha hc

/-- Bit `i` of a value read is bit `i mod 8` of the byte `i / 8` further on (20_memory.md R31). -/
theorem Memory.valAt_getLsbD (m : Memory) (a n : Nat) {i : Nat} (hi : i < 8 * n) :
    (m.valAt a n).getLsbD i = (m.read (a + i / 8)).getLsbD (i % 8) := by
  rw [Memory.valAt, ofBytes_getLsbD, Memory.bytesAt_getD _ _ _ _ (by omega), decide_eq_true hi, Bool.true_and]

theorem stores_of_txn_write {s : State} (hs : CanonicalMem s) {a : Nat} {d : List Byte}
    (h : inBlock a d.length = true) : Stores (txn a (.write d) s) s a d := by
  have ha := ((inBlock_iff ..).mp h).2
  exact ⟨s.mem.write a d, txn_write h s, fun _ => Memory.read_write_inside hs ha,
    fun _ => Memory.read_write_outside hs ha⟩

/-- Settles O5: `inBlock` decides which rule of a transaction applies, to the read and to the write alike. -/
theorem memReadAndMemWriteByteByByte : Obligations.MemReadAndMemWriteByteByByte := by
  intro s addr n d hs hd
  refine ⟨rfl, ?_⟩
  rw [exec_rd, exec_wr]
  split
  case isTrue h =>
    have inside : inBlock addr.toNat n.toNat = true := (inBlock_iff ..).mpr h
    exact ⟨⟨_, txn_read inside s, Memory.valAt_byte _ _ _⟩, stores_of_txn_write hs (hd ▸ inside)⟩
  case isFalse h =>
    have outside : ¬ inBlock addr.toNat n.toNat = true := mt (inBlock_iff ..).mp h
    have refusedWrite := txn_outside (t := .write d) (hd ▸ outside) s
    exact ⟨txn_outside outside s, by rwa [Access.size, hd] at refusedWrite⟩

/-- A completed read leaves the block, so the same read completes again with the same value. -/
theorem rd_repeats {s t : State} {addr n : BitVec 11} (h : exec (.rd addr n) s = .next t) :
    ∃ r, t = s.ret r ∧ exec (.rd addr n) t = .next (t.ret r) := by
  rw [exec_rd] at h
  obtain ⟨inside, -, -, ⟨m, hm, rfl⟩ | ⟨d, hd, -⟩⟩ := txn_next h
  · cases hm
    exact ⟨_, rfl, txn_read inside _⟩
  · cases hd

theorem wr_next {s t : State} {addr : BitVec 11} {d : List Byte} (h : exec (.wr addr d) s = .next t) :
    inBlock addr.toNat d.length = true ∧ t = s.store addr.toNat d := by
  rw [exec_wr] at h
  obtain ⟨inside, -, -, ⟨n, hn, -⟩ | ⟨d', hd, rfl⟩⟩ := txn_next h
  · cases hn
  · cases hd
    exact ⟨inside, rfl⟩

/-- Settles O6: reads repeat (`rd_repeats`), a write is idempotent on the canonical block (`Memory.write_write`), and a
read's bytes are those a write has put there. -/
theorem rawAccessesRepeatAndReadBack : Obligations.RawAccessesRepeatAndReadBack := by
  refine ⟨fun s t addr n => rd_repeats, fun s t addr n d hs h => ?_⟩
  obtain ⟨inside, rfl⟩ := wr_next h
  have ha := ((inBlock_iff ..).mp inside).2
  refine ⟨?_, fun hd => ⟨_, txn_read (hd ▸ inside) _, fun k hk => ?_⟩⟩
  · rw [exec_wr, txn_write inside, State.store, State.store_mem, Memory.write_write hs ha]
    rfl
  · rw [Memory.valAt_byte _ _ _ _ hk]
    exact Memory.read_write_inside hs ha (by omega)

/-- Writing byte 3 of a register word replaces bits 31:24 (20_memory.md R32). -/
theorem Memory.wordAt_write_top_byte {m : Memory} (h : m.wf = true) {a : Nat} (b : Byte) (ha : a + 3 < 1024) :
    (m.write (a + 3) [b]).wordAt a = (m.wordAt a &&& 0x00FFFFFF#32) ||| (b.setWidth 32 <<< 24) := by
  have mask : ∀ j < 32, (0x00FFFFFF#32).getLsbD j = decide (j < 24) := by decide
  refine BitVec.eq_of_getLsbD_eq fun i hi => ?_
  rw [Memory.wordAt, Memory.wordAt, Memory.valAt_getLsbD _ _ _ hi, BitVec.getLsbD_or, BitVec.getLsbD_and,
    Memory.valAt_getLsbD _ _ _ hi, mask i hi]
  by_cases top : 24 ≤ i
  · have hbyte : i / 8 = 3 := by omega
    have hbit : i % 8 = i - 24 := by omega
    rw [hbyte, Memory.read_write_inside h (k := 0) (d := [b]) ha Nat.one_pos, hbit]
    simp [show ¬ i < 24 by omega, hi]
  · rw [Memory.read_write_outside h (d := [b]) ha (by simp only [List.length_singleton]; omega)]
    simp [show i < 24 by omega, hi]

/-- Settles O7: the write stores one byte, which is the top one of the word (`Memory.wordAt_write_top_byte`). -/
theorem oneByteWriteChangesOneByteOfTheWord : Obligations.OneByteWriteChangesOneByteOfTheWord := by
  intro s i b hi hs
  have haddr : (BitVec.ofNat 11 (16 * i + 3)).toNat = 16 * i + 3 := by
    rw [BitVec.toNat_ofNat]
    omega
  have inside : inBlock (16 * i + 3) [b].length = true :=
    (inBlock_iff ..).mpr ⟨le_rfl, by simp only [List.length_singleton]; omega⟩
  rw [exec_wr, haddr]
  refine ⟨stores_of_txn_write hs inside, fun t ht => ?_⟩
  rw [txn_write inside] at ht
  cases ht
  exact Memory.wordAt_write_top_byte hs b (by omega)

end Sys2Proof.Machine
end

section
/-! The port and the launch: which operation a step performs, that no operation touches the port, what a launch needs. -/

namespace Sys2Proof.Machine

theorem step_of_ok {s : State} {i : Instr} {rest : List Byte} (hd : decode s.port = .ok i rest) :
    step s = exec i (s.advance rest) := by
  have pending : s.port ≠ [] := by
    intro hp
    rw [hp] at hd
    cases hd
  rw [step, fetch_of_pending pending, hd]

/-- Settles O48: bytes that decode are some, so the step takes them from the port (`step_of_ok`). -/
theorem stepRunsTheDecodedOperation : Obligations.StepRunsTheDecodedOperation := fun _ _ _ => step_of_ok

/-- Settles O60: none of the four things a completed operation can do (`exec_effect`) touches the port or an earlier
result. -/
theorem operationsLeaveThePortAlone : Obligations.OperationsLeaveThePortAlone := by
  intro i s t h
  cases exec_effect h with
  | ret r => exact ⟨rfl, .inr ⟨r, rfl⟩⟩
  | give v => exact ⟨rfl, .inr ⟨.slot v, rfl⟩⟩
  | set => exact ⟨rfl, .inl rfl⟩
  | store => exact ⟨rfl, .inl rfl⟩

theorem launch_of_good {m : Mapping} (aligned : m.base % 16 = 0) (whole : 1024 ≤ m.extent) :
    launch m = .next State.reset :=
  (if_neg (Nat.not_lt.mpr whole)).trans (if_neg (not_not_intro aligned))

theorem launch_of_short {m : Mapping} (h : m.extent < 1024) : launch m = .refused (.mappingTooShort m.extent) :=
  if_pos h

theorem launch_of_misaligned {m : Mapping} (whole : 1024 ≤ m.extent) (h : m.base % 16 ≠ 0) :
    launch m = .refused (.baseMisaligned m.base) :=
  (if_neg (Nat.not_lt.mpr whole)).trans (if_pos h)

/-- `BASE` is aligned, whichever unit of the address space it is (20_memory.md R34). -/
theorem base_aligned : Config.base % 16 = 0 := Nat.mul_mod_right ..

/-- Settles O58: a launch checks the extent, then the base; an aligned base keeps slots and words aligned. -/
theorem launchNeedsAWholeAlignedMapping : Obligations.LaunchNeedsAWholeAlignedMapping := by
  refine ⟨fun m => launch_of_good, fun m bad => ?_, base_aligned, fun i _ => ?_⟩
  · by_cases whole : 1024 ≤ m.extent
    · exact ⟨_, launch_of_misaligned whole fun aligned => bad ⟨aligned, whole⟩⟩
    · exact ⟨_, launch_of_short (Nat.lt_of_not_le whole)⟩
  · have hb := base_aligned
    unfold Config.absAddr
    omega

end Sys2Proof.Machine
end

section
/-! The byte form read back (log 1): each piece of the decoder takes what the encoder wrote for it, the rows of the
operation map have no offset in common, and so decoding the bytes of a well-formed operation gives it back. -/

namespace Sys2Proof
open Sys2Proof.Machine

theorem takeVal_encWord (n : Nat) (rest : List Byte) :
    takeVal 16 2 (encWord n ++ rest) = some (BitVec.ofNat 16 n, rest) := takeVal_bytesOf (n := 2) rfl _ rest

theorem toNat_ofNat_16 {n : Nat} (h : n < 65536) : (BitVec.ofNat 16 n).toNat = n := by
  rw [BitVec.toNat_ofNat, Nat.mod_eq_of_lt h]

section
variable (rest : List Byte)

@[simp] theorem decodeField_encWord (f : Field) (k : Field → List Byte → Decoded) :
    decodeField (encWord f.code ++ rest) k = k f rest := by
  have := field_code_lt f
  rw [decodeField, takeVal_encWord]
  simp only
  rw [toNat_ofNat_16 (by omega), field_all_code]

@[simp] theorem decodeEntry_encWord (e : Entry) (k : Entry → List Byte → Decoded) :
    decodeEntry (encWord e.slot ++ rest) k = k e rest := by
  have := entry_slot_lt e
  rw [decodeEntry, takeVal_encWord]
  simp only
  rw [toNat_ofNat_16 (by omega), entry_ofSlot_slot]

@[simp] theorem decodeSlot_slotBytes (x : Slot) (k : Slot → List Byte → Decoded) :
    decodeSlot (slotBytes x ++ rest) k = k x rest := by
  rw [decodeSlot, slotBytes, takeVal_bytesOf (n := 16) rfl]

@[simp] theorem decodeWord32_wordBytes (v : RegWord) (k : RegWord → List Byte → Decoded) :
    decodeWord32 (wordBytes v ++ rest) k = k v rest := by
  rw [decodeWord32, wordBytes, takeVal_bytesOf (n := 4) rfl]

theorem decodeOperand_wordBytes {f : Field} {v : RegWord} (h : f.fits v = true) (k : RegWord → List Byte → Decoded) :
    decodeOperand f (wordBytes v ++ rest) k = k v rest := by
  rw [decodeOperand, decodeWord32_wordBytes, if_pos h]

/-- An 11-bit number leaves the upper bits of its word zero. -/
theorem decodeCount_encWord {n : Nat} (h : n < 2048) (k : BitVec 11 → List Byte → Decoded) :
    decodeCount (encWord n ++ rest) k = k (BitVec.ofNat 11 n) rest := by
  have unused : BitVec.ofNat 16 n >>> 11 = 0#16 := by
    apply BitVec.eq_of_toNat_eq
    rw [BitVec.toNat_ushiftRight, toNat_ofNat_16 (by omega), Nat.shiftRight_eq_div_pow]
    exact Nat.div_eq_of_lt h
  rw [decodeCount, takeVal_encWord]
  simp only
  rw [if_pos unused, BitVec.setWidth_ofNat_of_le (by decide)]

@[simp] theorem decodeCount_encWord_toNat (n : BitVec 11) (k : BitVec 11 → List Byte → Decoded) :
    decodeCount (encWord n.toNat ++ rest) k = k n rest := by
  rw [decodeCount_encWord rest n.isLt, BitVec.ofNat_toNat, BitVec.setWidth_eq]

theorem decodeBytes_append {n : Nat} {d : List Byte} (h : d.length = n) (k : List Byte → List Byte → Decoded) :
    decodeBytes n (d ++ rest) k = k d rest := by
  rw [decodeBytes, ← h, takeBytes_append]

/-! ### The head word -/

theorem headWord_class {cls payload : Nat} (hc : cls < 64) (hp : payload < 1024) :
    (BitVec.ofNat 16 (cls * 1024 + payload) >>> 10).toNat = cls := by
  rw [BitVec.toNat_ushiftRight, toNat_ofNat_16 (by omega), Nat.shiftRight_eq_div_pow]
  omega

theorem headWord_payload (cls payload : Nat) :
    (BitVec.ofNat 16 (cls * 1024 + payload)).setWidth 10 = BitVec.ofNat 10 payload := by
  apply BitVec.eq_of_toNat_eq
  rw [BitVec.setWidth_ofNat_of_le (by decide), BitVec.toNat_ofNat, BitVec.toNat_ofNat]
  omega

theorem decode_encHead_txn (a : BitVec 10) : decode (encHead 0 a.toNat ++ rest) = decodeTxn a rest := by
  rw [decode, encHead, takeVal_encWord]
  simp only
  rw [headWord_class (by decide) a.isLt, headWord_payload, BitVec.ofNat_toNat, BitVec.setWidth_eq]
  rfl

theorem decode_encHead_op {n : Nat} (h : n < 1024) : decode (encHead 1 n ++ rest) = decodeOp n rest := by
  rw [decode, encHead, takeVal_encWord]
  simp only
  rw [headWord_class (by decide) h, headWord_payload, BitVec.toNat_ofNat, Nat.mod_eq_of_lt h]
  rfl

theorem decode_encGet (f : Field) (x : Slot) : decode (encGet f x ++ rest) = .ok (f.getInstr x) rest := by
  have h : f.code < 1024 := (field_code_lt f).trans (by decide)
  rw [encGet, List.append_assoc, decode, encHead, takeVal_encWord]
  simp only
  rw [headWord_class (by decide) h, headWord_payload, BitVec.toNat_ofNat, Nat.mod_eq_of_lt h]
  simp only [field_all_code, decodeSlot_slotBytes]

theorem decode_encWith {f : Field} (x : Slot) {v : RegWord} (hv : f.fits v = true) :
    decode (encWith f x v ++ rest) = .ok (f.withInstr x v) rest := by
  have h : f.code < 1024 := (field_code_lt f).trans (by decide)
  rw [encWith, List.append_assoc, List.append_assoc, decode, encHead, takeVal_encWord]
  simp only
  rw [headWord_class (by decide) h, headWord_payload, BitVec.toNat_ofNat, Nat.mod_eq_of_lt h]
  simp only [field_all_code, decodeSlot_slotBytes, decodeOperand_wordBytes rest hv]

/-! ### The operation map -/

/-- Two rows that no offset belongs to both of: their patterns differ on a bit both masks look at. -/
def MapRow.Apart (r r' : MapRow) : Prop := r.pat &&& r'.mask ≠ r'.pat &&& r.mask

theorem MapRow.not_holds_of_apart {r r' : MapRow} (h : r.Apart r') {a : BitVec 10} (ha : r'.holds a = true) :
    r.holds a = false := by
  by_contra hr
  simp only [MapRow.holds, beq_iff_eq, Bool.not_eq_false] at ha hr
  apply h
  rw [← ha, ← hr, BitVec.and_assoc, BitVec.and_assoc, BitVec.and_comm r.mask]

theorem operationMap_apart : operationMap.Pairwise MapRow.Apart := by
  unfold MapRow.Apart
  decide

theorem find?_holds_of_mem {l : List MapRow} (hl : l.Pairwise MapRow.Apart) {r : MapRow} (hr : r ∈ l) {a : BitVec 10}
    (ha : r.holds a = true) : l.find? (fun r => r.holds a) = some r := by
  induction hl with
  | nil => cases hr
  | cons apart _ ih =>
    rcases List.mem_cons.mp hr with rfl | hr
    · exact List.find?_cons_of_pos ha
    · rw [List.find?_cons_of_neg (by simp [MapRow.not_holds_of_apart (apart r hr) ha]), ih hr]

/-- The operation at an offset is that of any row the offset belongs to (30_encoding.md R52, R59). -/
theorem blockInstr_of_holds {r : MapRow} (hr : r ∈ operationMap) {a : BitVec 10} (ha : r.holds a = true) (t : Access) :
    blockInstr a t = some (r.instr a t) := by
  rw [blockInstr, find?_holds_of_mem operationMap_apart hr ha, Option.map_some]

/-! ### Transaction records -/

/-- The second word of a record: the byte count less one, and bit 10 for a write. -/
theorem recordWord_fields (write : Bool) {c w : Nat} (hc : c < 1024) (hw : w = write.toNat * 1024 + c) :
    BitVec.ofNat 16 w >>> 11 = 0#16 ∧ (BitVec.ofNat 16 w).getLsbD 10 = write ∧
    ((BitVec.ofNat 16 w).setWidth 10).toNat = c := by
  have bound : write.toNat < 2 := write.toNat_lt
  have hn : (BitVec.ofNat 16 w).toNat = w := toNat_ofNat_16 (by omega)
  refine ⟨?_, ?_, ?_⟩
  · apply BitVec.eq_of_toNat_eq
    rw [BitVec.toNat_ushiftRight, hn, Nat.shiftRight_eq_div_pow]
    exact Nat.div_eq_of_lt (by omega)
  · have quotient : w / 2 ^ 10 = write.toNat := by omega
    rw [BitVec.getLsbD, hn, Nat.testBit_eq_decide_div_mod_eq, quotient]
    cases write <;> rfl
  · rw [hw, headWord_payload, BitVec.toNat_ofNat, Nat.mod_eq_of_lt hc]

theorem decode_encTxn {a : BitVec 10} {t : Access} {i : Instr} (ht : t.wf = true) (hi : blockInstr a t = some i) :
    decode (encTxn a t ++ rest) = .ok i rest := by
  simp only [Access.wf, Bool.and_eq_true, decide_eq_true_eq] at ht
  cases t with
  | read n =>
    obtain ⟨hpos, hmax⟩ : 1 ≤ n ∧ n ≤ 1024 := ht
    obtain ⟨unused, kind, count⟩ := recordWord_fields (w := n - 1) false (by omega) (Nat.zero_add _).symm
    rw [encTxn, List.append_assoc, decode_encHead_txn, decodeTxn, takeVal_encWord]
    simp only [unused, kind, count, Nat.sub_add_cancel hpos, hi]
    rfl
  | write d =>
    obtain ⟨hpos, hmax⟩ : 1 ≤ d.length ∧ d.length ≤ 1024 := ht
    obtain ⟨unused, kind, count⟩ := recordWord_fields (w := 1024 + (d.length - 1)) true (by omega) rfl
    rw [encTxn, List.append_assoc, List.append_assoc, decode_encHead_txn, decodeTxn, takeVal_encWord]
    simp only [unused, kind, count, decodeBytes_append rest (Nat.sub_add_cancel hpos).symm, hi]
    rfl

/-- An offset put together from a row's pattern and the byte `off` of its `2 ^ w` bytes belongs to the row, and its low
bits are `off`. -/
theorem rowOffset_fields {w : Nat} {pat mask : BitVec 10} (hw : w ≤ 10) (hpat : pat &&& mask = pat)
    (hpatLow : pat.setWidth w = 0#w) (hmaskLow : mask.setWidth w = 0#w) (off : BitVec w) :
    (pat ||| off.setWidth 10) &&& mask = pat ∧ (pat ||| off.setWidth 10).setWidth w = off := by
  have outside : mask &&& off.setWidth 10 = 0#10 := by
    refine BitVec.eq_of_getLsbD_eq fun i _ => ?_
    by_cases hi : i < w
    · have : mask.getLsbD i = false := by simpa [hi] using congrArg (BitVec.getLsbD · i) hmaskLow
      simp [this]
    · simp [BitVec.getLsbD_of_ge off i (by omega)]
  constructor
  · rw [BitVec.and_comm, BitVec.and_or_distrib_left, outside, BitVec.or_zero, BitVec.and_comm, hpat]
  · rw [BitVec.setWidth_or, hpatLow, BitVec.zero_or, BitVec.setWidth_setWidth_of_le _ hw, BitVec.setWidth_eq]

/-- A record at byte `off` of a row that is one run of bytes. -/
theorem decode_rowTxn {w : Nat} {pat mask : BitVec 10} {mk : BitVec w → Access → Instr} (j : Nat)
    (hr : operationMap[j]? = some ⟨pat, mask, fun a t => mk (a.setWidth w) t⟩)
    (hrow : w ≤ 10 ∧ pat &&& mask = pat ∧ pat.setWidth w = 0#w ∧ mask.setWidth w = 0#w) (off : BitVec w) {t : Access}
    (ht : t.wf = true) : decode (encTxn (pat ||| off.setWidth 10) t ++ rest) = .ok (mk off t) rest := by
  obtain ⟨hw, hpat, hpatLow, hmaskLow⟩ := hrow
  obtain ⟨holds, low⟩ := rowOffset_fields hw hpat hpatLow hmaskLow off
  refine decode_encTxn rest ht ?_
  rw [blockInstr_of_holds (List.mem_of_getElem? hr) (beq_iff_eq.mpr holds)]
  simp only [low]

/-- An array's row is the 128 bytes numbered by the element, then the byte in it. -/
theorem arrayOffset_fields {pat : BitVec 10} (hpat : pat &&& 0x380#10 = pat) (hpatLow : pat.setWidth 7 = 0#7)
    (k : BitVec 3) (byte : BitVec 4) :
    (pat ||| (k.setWidth 10 <<< 4) ||| byte.setWidth 10) &&& 0x380#10 = pat ∧
    (pat ||| (k.setWidth 10 <<< 4) ||| byte.setWidth 10).extractLsb' 4 3 = k ∧
    (pat ||| (k.setWidth 10 <<< 4) ||| byte.setWidth 10).setWidth 4 = byte := by
  have joined : (k.setWidth 10 <<< 4) ||| byte.setWidth 10 = (k ++ byte).setWidth 10 := by revert k byte; decide
  obtain ⟨holds, low⟩ := rowOffset_fields (by decide) hpat hpatLow (by decide) (k ++ byte)
  rw [BitVec.or_assoc, joined]
  refine ⟨holds, ?_, ?_⟩
  · rw [← BitVec.extractLsb'_setWidth_of_le (show 4 + 3 ≤ 7 by decide), low]
    exact BitVec.extractLsb'_append_eq_left
  · rw [← BitVec.setWidth_setWidth_of_le _ (show 4 ≤ 7 by decide), low, BitVec.setWidth_append_eq_right]

/-- A record at byte `byte` of element `k` of an array. -/
theorem decode_arrayTxn {pat : BitVec 10} {mk : BitVec 3 → BitVec 4 → Access → Instr} (j : Nat)
    (hr : operationMap[j]? = some ⟨pat, 0x380, fun a t => mk (a.extractLsb' 4 3) (a.setWidth 4) t⟩)
    (hrow : pat &&& 0x380#10 = pat ∧ pat.setWidth 7 = 0#7) (k : BitVec 3) (byte : BitVec 4) {t : Access}
    (ht : t.wf = true) :
    decode (encTxn (pat ||| (k.setWidth 10 <<< 4) ||| byte.setWidth 10) t ++ rest) = .ok (mk k byte t) rest := by
  obtain ⟨holds, element, low⟩ := arrayOffset_fields hrow.1 hrow.2 k byte
  refine decode_encTxn rest ht ?_
  rw [blockInstr_of_holds (List.mem_of_getElem? hr) (beq_iff_eq.mpr holds)]
  simp only [element, low]

end

/-! ### The operations -/

theorem decode_opDefault (t : RegType) (rest : List Byte) :
    decode (encHead 1 0 ++ encWord t.code ++ rest) = .ok (.opDefault t) rest := by
  have := regType_code_lt t
  rw [List.append_assoc, decode_encHead_op _ (by decide), decodeOp, takeVal_encWord]
  simp only
  rw [toNat_ofNat_16 (by omega), regType_all_code]

/-- The bytes of a well-formed operation decode to it, whatever follows them: a generic operation operand by operand, a
row of the operation map by the map, a getter or setter row by its field's number. -/
theorem decode_encode {i : Instr} (hi : i.wf = true) (rest : List Byte) : decode (encode i ++ rest) = .ok i rest := by
  cases i with
  | opDefault t => exact decode_opDefault t rest
  | opGet | toBytes | opEq | rfDefault | rfToBytes | rd | rds | wrs | rdw | wrw =>
    simp [encode, decode_encHead_op, decodeOp]
  | opWith f x v => simp [encode, decode_encHead_op, decodeOp, decodeOperand_wordBytes rest hi]
  | opSet f v => simp [encode, decode_encHead_op, decodeOp, decodeOperand_wordBytes rest hi]
  | fromBytes b => simp [encode, decode_encHead_op, decodeOp, decodeBytes_append rest (beq_iff_eq.mp hi)]
  | rfFromBytes b => simp [encode, decode_encHead_op, decodeOp, decodeBytes_append rest (beq_iff_eq.mp hi)]
  | wr addr d =>
    have hlen : d.length < 2048 := of_decide_eq_true hi
    have hcount : d.length = d.length % 2048 := (Nat.mod_eq_of_lt hlen).symm
    simp [encode, decode_encHead_op, decodeOp, decodeCount_encWord _ hlen, decodeBytes_append rest hcount]
  | getf e f =>
    have hf : f.isOf e = true := hi
    simp [encode, decode_encHead_op, decodeOp, hf]
  | setf e f v =>
    obtain ⟨hf, hv⟩ := Bool.and_eq_true_iff.mp hi
    simp [encode, decode_encHead_op, decodeOp, hf, decodeOperand_wordBytes rest hv]
  | accId byte t => exact decode_rowTxn rest 0 rfl (by decide) byte hi
  | accVer byte t => exact decode_rowTxn rest 1 rfl (by decide) byte hi
  | accTpr byte t => exact decode_rowTxn rest 2 rfl (by decide) byte hi
  | accApr byte t => exact decode_rowTxn rest 3 rfl (by decide) byte hi
  | accPpr byte t => exact decode_rowTxn rest 4 rfl (by decide) byte hi
  | accEoi byte t => exact decode_rowTxn rest 5 rfl (by decide) byte hi
  | accLdr byte t => exact decode_rowTxn rest 6 rfl (by decide) byte hi
  | accDfr byte t => exact decode_rowTxn rest 7 rfl (by decide) byte hi
  | accSvr byte t => exact decode_rowTxn rest 8 rfl (by decide) byte hi
  | accIsr k byte t => exact decode_arrayTxn rest 9 rfl (by decide) k byte hi
  | accTmr k byte t => exact decode_arrayTxn rest 10 rfl (by decide) k byte hi
  | accIrr k byte t => exact decode_arrayTxn rest 11 rfl (by decide) k byte hi
  | accEsr byte t => exact decode_rowTxn rest 12 rfl (by decide) byte hi
  | accIcrl byte t => exact decode_rowTxn rest 13 rfl (by decide) byte hi
  | accIcrh byte t => exact decode_rowTxn rest 14 rfl (by decide) byte hi
  | accLvtt byte t => exact decode_rowTxn rest 15 rfl (by decide) byte hi
  | accLvtth byte t => exact decode_rowTxn rest 16 rfl (by decide) byte hi
  | accLvtpc byte t => exact decode_rowTxn rest 17 rfl (by decide) byte hi
  | accLvtl0 byte t => exact decode_rowTxn rest 18 rfl (by decide) byte hi
  | accLvtl1 byte t => exact decode_rowTxn rest 19 rfl (by decide) byte hi
  | accLvterr byte t => exact decode_rowTxn rest 20 rfl (by decide) byte hi
  | accTicr byte t => exact decode_rowTxn rest 21 rfl (by decide) byte hi
  | accTccr byte t => exact decode_rowTxn rest 22 rfl (by decide) byte hi
  | accTdcr byte t => exact decode_rowTxn rest 23 rfl (by decide) byte hi
  | accRsv0 off t => exact decode_rowTxn rest 24 rfl (by decide) off hi
  | accRsv1 off t => exact decode_rowTxn rest 25 rfl (by decide) off hi
  | accRsv2 off t => exact decode_rowTxn rest 26 rfl (by decide) off hi
  | accRsv3Slot41 off t => exact decode_rowTxn rest 27 rfl (by decide) off hi
  | accRsv3Slots42To43 off t => exact decode_rowTxn rest 28 rfl (by decide) off hi
  | accRsv3Slots44To47 off t => exact decode_rowTxn rest 29 rfl (by decide) off hi
  | accRsv4Slots58To59 off t => exact decode_rowTxn rest 30 rfl (by decide) off hi
  | accRsv4Slots60To61 off t => exact decode_rowTxn rest 31 rfl (by decide) off hi
  | accRsv5 off t => exact decode_rowTxn rest 32 rfl (by decide) off hi
  | getIdRegId | getVersionRegVersion | getVersionRegMaxLvtEntry | getPriorityRegSubclass | getPriorityRegClass
    | getEoiRegValue | getLogicalDestRegLogicalId | getDestFormatRegModel | getSpuriousRegVector
    | getSpuriousRegEnable | getSpuriousRegFocusCheck | getSpuriousRegEoiBcastSuppress | getBitmask32RegBits
    | getErrorStatusRegSendChecksum | getErrorStatusRegRecvChecksum | getErrorStatusRegSendAccept
    | getErrorStatusRegRecvAccept | getErrorStatusRegRedirectableIpi | getErrorStatusRegSendIllegalVector
    | getErrorStatusRegRecvIllegalVector | getErrorStatusRegIllegalRegAddr | getIcrLowRegVector
    | getIcrLowRegDeliveryMode | getIcrLowRegDestMode | getIcrLowRegDeliveryStatus | getIcrLowRegLevel
    | getIcrLowRegTriggerMode | getIcrLowRegShorthand | getIcrHighRegDestination | getLvtTimerRegVector
    | getLvtTimerRegDeliveryStatus | getLvtTimerRegMask | getLvtTimerRegTimerMode | getLvtThermalRegVector
    | getLvtThermalRegDeliveryMode | getLvtThermalRegDeliveryStatus | getLvtThermalRegMask | getLvtPerfRegVector
    | getLvtPerfRegDeliveryMode | getLvtPerfRegDeliveryStatus | getLvtPerfRegMask | getLvtLintRegVector
    | getLvtLintRegDeliveryMode | getLvtLintRegDeliveryStatus | getLvtLintRegPolarity | getLvtLintRegRemoteIrr
    | getLvtLintRegTriggerMode | getLvtLintRegMask | getLvtErrorRegVector | getLvtErrorRegDeliveryStatus
    | getLvtErrorRegMask | getTimerCountRegCount | getTimerDivideRegDivLo | getTimerDivideRegDivHi =>
    exact decode_encGet rest _ _
  | withIdRegId | withVersionRegVersion | withVersionRegMaxLvtEntry | withPriorityRegSubclass | withPriorityRegClass
    | withEoiRegValue | withLogicalDestRegLogicalId | withDestFormatRegModel | withSpuriousRegVector
    | withSpuriousRegEnable | withSpuriousRegFocusCheck | withSpuriousRegEoiBcastSuppress | withBitmask32RegBits
    | withErrorStatusRegSendChecksum | withErrorStatusRegRecvChecksum | withErrorStatusRegSendAccept
    | withErrorStatusRegRecvAccept | withErrorStatusRegRedirectableIpi | withErrorStatusRegSendIllegalVector
    | withErrorStatusRegRecvIllegalVector | withErrorStatusRegIllegalRegAddr | withIcrLowRegVector
    | withIcrLowRegDeliveryMode | withIcrLowRegDestMode | withIcrLowRegDeliveryStatus | withIcrLowRegLevel
    | withIcrLowRegTriggerMode | withIcrLowRegShorthand | withIcrHighRegDestination | withLvtTimerRegVector
    | withLvtTimerRegDeliveryStatus | withLvtTimerRegMask | withLvtTimerRegTimerMode | withLvtThermalRegVector
    | withLvtThermalRegDeliveryMode | withLvtThermalRegDeliveryStatus | withLvtThermalRegMask | withLvtPerfRegVector
    | withLvtPerfRegDeliveryMode | withLvtPerfRegDeliveryStatus | withLvtPerfRegMask | withLvtLintRegVector
    | withLvtLintRegDeliveryMode | withLvtLintRegDeliveryStatus | withLvtLintRegPolarity | withLvtLintRegRemoteIrr
    | withLvtLintRegTriggerMode | withLvtLintRegMask | withLvtErrorRegVector | withLvtErrorRegDeliveryStatus
    | withLvtErrorRegMask | withTimerCountRegCount | withTimerDivideRegDivLo | withTimerDivideRegDivHi =>
    exact decode_encWith rest _ hi

end Sys2Proof
end

section
/-! A run of the host's operations: what an operation does does not depend on the operations still at the port, so a run
over the encoded list performs the list (20_memory.md R44; logs 1, 2). -/

namespace Sys2Proof.Machine

/-- The outcome with `port` as what is left of the host's operations. -/
def withPort (port : List Byte) : Host.Outcome State Fault Refusal → Host.Outcome State Fault Refusal
  | .next s => .next (s.advance port)
  | .fault r => .fault r
  | .refused r => .refused r

section
variable (port : List Byte) (s : State)

@[simp] theorem withPort_next : withPort port (.next s) = .next (s.advance port) := rfl

@[simp] theorem withPort_refused (r : Refusal) : withPort port (.refused r) = .refused r := rfl

theorem store_advance (a : Nat) (d : List Byte) : (s.advance port).store a d = (s.store a d).advance port := rfl

theorem txn_advance (a : Nat) (t : Access) : txn a t (s.advance port) = withPort port (txn a t s) := by
  rcases txn_cases a t s with ⟨outside, e⟩ | ⟨n, rfl, inside, e⟩ | ⟨d, rfl, inside, e⟩ <;> rw [e]
  · exact txn_outside (by simp [outside]) _
  · exact txn_read inside _
  · exact txn_write inside _

theorem execFromBytes_advance (b : List Byte) :
    execFromBytes b (s.advance port) = withPort port (execFromBytes b s) := by
  unfold execFromBytes
  split <;> rfl

theorem execRfFromBytes_advance (b : List Byte) :
    execRfFromBytes b (s.advance port) = withPort port (execRfFromBytes b s) := by
  unfold execRfFromBytes
  split <;> rfl

theorem execGetf_advance (e : Entry) (f : Field) :
    execGetf e f (s.advance port) = withPort port (execGetf e f s) := by
  unfold execGetf
  split <;> rfl

theorem execSetf_advance (e : Entry) (f : Field) (v : RegWord) :
    execSetf e f v (s.advance port) = withPort port (execSetf e f v s) := by
  unfold execSetf
  split <;> rfl

/-- No operation looks at the port. -/
theorem exec_advance (i : Instr) : exec i (s.advance port) = withPort port (exec i s) := by
  cases i with
  | rfDefault => exact congrArg Host.Outcome.next (store_advance port s _ _)
  | fromBytes b => exact execFromBytes_advance port s b
  | rfFromBytes b => exact execRfFromBytes_advance port s b
  | getf e f => exact execGetf_advance port s e f
  | setf e f v => exact execSetf_advance port s e f v
  | rd | wr | accId | accVer | accTpr | accApr | accPpr | accEoi | accLdr | accDfr | accSvr | accIsr | accTmr | accIrr
    | accEsr | accIcrl | accIcrh | accLvtt | accLvtth | accLvtpc | accLvtl0 | accLvtl1 | accLvterr | accTicr
    | accTccr | accTdcr | accRsv0 | accRsv1 | accRsv2 | accRsv3Slot41 | accRsv3Slots42To43 | accRsv3Slots44To47
    | accRsv4Slots58To59 | accRsv4Slots60To61 | accRsv5 =>
    exact txn_advance port s _ _
  | _ => rfl

end

section
variable {M : Host.Core} {k : Nat} {s : M.State}

theorem run_succ_of_next {t : M.State} (h : M.step s = .next t) : M.run (k + 1) s = M.run k t := by
  simp only [Host.Core.run, h]

theorem run_succ_of_fault {r : M.Fault} (h : M.step s = .fault r) : M.run (k + 1) s = .fault r := by
  simp only [Host.Core.run, h]

theorem run_succ_of_refused {r : M.Refusal} (h : M.step s = .refused r) : M.run (k + 1) s = .refused r := by
  simp only [Host.Core.run, h]

end

/-- As many steps as there are operations at the port perform them in order. -/
theorem run_encoded (ops : List Instr) (hwf : ∀ i ∈ ops, i.wf = true) (s : State) :
    core.run ops.length (s.advance (ops.flatMap encode)) = execAll ops (s.advance []) := by
  induction ops generalizing s with
  | nil => rfl
  | cons i is ih =>
    obtain ⟨hi, his⟩ := List.forall_mem_cons.mp hwf
    have hstep : core.step (s.advance ((i :: is).flatMap encode)) = withPort (is.flatMap encode) (exec i s) := by
      rw [← exec_advance]
      exact step_of_ok (decode_encode hi _)
    rw [List.length_cons, execAll, exec_advance]
    cases he : exec i s with
    | next t => exact (run_succ_of_next (by rw [hstep, he]; rfl)).trans (ih his t)
    | fault r => exact run_succ_of_fault (by rw [hstep, he]; rfl)
    | refused r => exact run_succ_of_refused (by rw [hstep, he]; rfl)

/-- Settles O50, by induction on the list of operations (`run_encoded`). -/
theorem runPerformsTheHostsOperationsInOrder : Obligations.RunPerformsTheHostsOperationsInOrder := by
  intro ops s hwf
  have run := run_encoded ops hwf s
  split
  case h_1 t h => exact run.trans h
  case h_2 r h => exact run.trans h
  case h_3 r h => exact run.trans h

end Sys2Proof.Machine
end

section
/-! The byte form is one for one (log 1): what each piece of the decoder accepts is what the encoder writes for its
answer, and a row of the operation map answers the record it was given. -/

namespace Sys2Proof
open Sys2Proof.Machine

/-! ### The numbers of fields, types and entries -/

theorem field_all_nodup : Field.all.Nodup := by decide

theorem regType_all_nodup : RegType.all.Nodup := by decide

theorem field_code_of_getElem? {n : Nat} {f : Field} (h : Field.all[n]? = some f) : n = f.code := by
  obtain ⟨hn, -⟩ := List.getElem?_eq_some_iff.mp h
  exact (List.getElem?_inj hn field_all_nodup).mp (h.trans (field_all_code f).symm)

theorem regType_code_of_getElem? {n : Nat} {t : RegType} (h : RegType.all[n]? = some t) : n = t.code := by
  obtain ⟨hn, -⟩ := List.getElem?_eq_some_iff.mp h
  exact (List.getElem?_inj hn regType_all_nodup).mp (h.trans (regType_all_code t).symm)

theorem slot_of_entry_ofSlot {n : Nat} {e : Entry} (h : Entry.ofSlot n = some e) : n = e.slot := by
  have found : (e.slot == n) = true := List.find?_some (p := fun e : Entry => e.slot == n) h
  exact (beq_iff_eq.mp found).symm

/-! ### Operands -/

theorem bytesOf_ofBytes {n : Nat} {d : List Byte} (hd : d.length = n) : bytesOf n (ofBytes (8 * n) d) = d := by
  refine List.ext_getElem (by simp [hd]) fun k hk hk' => ?_
  rw [bytesOf_length] at hk
  simp only [bytesOf, List.getElem_map, List.getElem_range]
  refine BitVec.eq_of_getLsbD_eq fun i hi => ?_
  rw [BitVec.getLsbD_extractLsb', ofBytes_getLsbD, show (8 * k + i) / 8 = k by omega,
    show (8 * k + i) % 8 = i by omega]
  simp [hi, hk', show 8 * k + i < 8 * n by omega]

/-- The bytes taken are the value's own. -/
theorem takeVal_eq_some {w n : Nat} (hw : w = 8 * n) {bs rest : List Byte} {v : BitVec w}
    (h : takeVal w n bs = some (v, rest)) : bs = bytesOf n v ++ rest := by
  subst hw
  obtain ⟨d, rfl, hd, rfl⟩ := takeVal_some h
  rw [bytesOf_ofBytes hd]

theorem takeVal_word {bs rest : List Byte} {c : BitVec 16} (h : takeVal 16 2 bs = some (c, rest)) :
    bs = encWord c.toNat ++ rest := by
  rw [encWord, BitVec.ofNat_toNat, BitVec.setWidth_eq]
  exact takeVal_eq_some (n := 2) rfl h

section
variable {bs rest : List Byte} {i : Instr}

theorem decodeField_eq_ok {k : Field → List Byte → Decoded} :
    decodeField bs k = .ok i rest ↔ ∃ f tail, bs = encWord f.code ++ tail ∧ k f tail = .ok i rest := by
  refine ⟨fun h => ?_, fun ⟨f, tail, hbs, h⟩ => by rwa [hbs, decodeField_encWord]⟩
  unfold decodeField at h
  split at h
  · cases h
  · rename_i c tail taken
    split at h
    · cases h
    · rename_i f hf
      exact ⟨f, tail, field_code_of_getElem? hf ▸ takeVal_word taken, h⟩

theorem decodeEntry_eq_ok {k : Entry → List Byte → Decoded} :
    decodeEntry bs k = .ok i rest ↔ ∃ e tail, bs = encWord e.slot ++ tail ∧ k e tail = .ok i rest := by
  refine ⟨fun h => ?_, fun ⟨e, tail, hbs, h⟩ => by rwa [hbs, decodeEntry_encWord]⟩
  unfold decodeEntry at h
  split at h
  · cases h
  · rename_i c tail taken
    split at h
    · cases h
    · rename_i e he
      exact ⟨e, tail, slot_of_entry_ofSlot he ▸ takeVal_word taken, h⟩

theorem decodeSlot_eq_ok {k : Slot → List Byte → Decoded} :
    decodeSlot bs k = .ok i rest ↔ ∃ x tail, bs = slotBytes x ++ tail ∧ k x tail = .ok i rest := by
  refine ⟨fun h => ?_, fun ⟨x, tail, hbs, h⟩ => by rwa [hbs, decodeSlot_slotBytes]⟩
  unfold decodeSlot at h
  split at h
  · cases h
  · rename_i x tail taken
    exact ⟨x, tail, takeVal_eq_some rfl taken, h⟩

theorem decodeWord32_eq_ok {k : RegWord → List Byte → Decoded} :
    decodeWord32 bs k = .ok i rest ↔ ∃ v tail, bs = wordBytes v ++ tail ∧ k v tail = .ok i rest := by
  refine ⟨fun h => ?_, fun ⟨v, tail, hbs, h⟩ => by rwa [hbs, decodeWord32_wordBytes]⟩
  unfold decodeWord32 at h
  split at h
  · cases h
  · rename_i v tail taken
    exact ⟨v, tail, takeVal_eq_some rfl taken, h⟩

theorem decodeOperand_eq_ok {f : Field} {k : RegWord → List Byte → Decoded} :
    decodeOperand f bs k = .ok i rest ↔
      ∃ v tail, bs = wordBytes v ++ tail ∧ f.fits v = true ∧ k v tail = .ok i rest := by
  refine ⟨fun h => ?_, fun ⟨v, tail, hbs, hv, h⟩ => by rwa [hbs, decodeOperand_wordBytes tail hv]⟩
  obtain ⟨v, tail, hbs, hv⟩ := decodeWord32_eq_ok.mp h
  split at hv
  · exact ⟨v, tail, hbs, ‹_›, hv⟩
  · cases hv

/-- A word whose bits from `w` on are zero is the number of its low `w` bits. -/
theorem toNat_setWidth_of_unused {w : Nat} {c : BitVec 16} (hc : c >>> w = 0#16) : (c.setWidth w).toNat = c.toNat := by
  have high : c.toNat / 2 ^ w = 0 := by
    simpa [Nat.shiftRight_eq_div_pow] using congrArg BitVec.toNat hc
  rw [BitVec.toNat_setWidth]
  exact Nat.mod_eq_of_lt (by simpa using high)

theorem decodeCount_eq_ok {k : BitVec 11 → List Byte → Decoded} :
    decodeCount bs k = .ok i rest ↔ ∃ n tail, bs = encWord n.toNat ++ tail ∧ k n tail = .ok i rest := by
  refine ⟨fun h => ?_, fun ⟨n, tail, hbs, h⟩ => by rwa [hbs, decodeCount_encWord_toNat]⟩
  unfold decodeCount at h
  split at h
  · cases h
  · rename_i c tail taken
    split at h
    · rename_i unused
      exact ⟨c.setWidth 11, tail, toNat_setWidth_of_unused unused ▸ takeVal_word taken, h⟩
    · cases h

theorem decodeBytes_eq_ok {n : Nat} {k : List Byte → List Byte → Decoded} :
    decodeBytes n bs k = .ok i rest ↔ ∃ d tail, bs = d ++ tail ∧ d.length = n ∧ k d tail = .ok i rest := by
  refine ⟨fun h => ?_, fun ⟨d, tail, hbs, hd, h⟩ => by rwa [hbs, decodeBytes_append tail hd]⟩
  unfold decodeBytes at h
  split at h
  · cases h
  · rename_i d tail taken
    obtain ⟨hbs, hd⟩ := takeBytes_some taken
    exact ⟨d, tail, hbs, hd, h⟩

end

/-! ### The operation map -/

/-- Operation `i` is the record `t` at block offset `a` (30_encoding.md R58): in its bytes, in what makes it
well-formed, and in what it does. -/
structure Instr.IsRecord (i : Instr) (a : BitVec 10) (t : Access) : Prop where
  encode_eq : encode i = encTxn a t
  wf_eq : i.wf = t.wf
  exec_eq : ∀ s, exec i s = txn a.toNat t s

/-- An offset of a row is the row's pattern and its own low bits. -/
theorem rowOffset_split {w : Nat} {pat mask a : BitVec 10} (hmask : mask = BitVec.allOnes 10 <<< w)
    (ha : a &&& mask = pat) :
    pat ||| (a.setWidth w).setWidth 10 = a ∧ pat.toNat + (a.setWidth w).toNat = a.toNat := by
  subst hmask
  have high : pat = a >>> w <<< w := by
    rw [← ha]
    refine BitVec.eq_of_getLsbD_eq fun i hi => ?_
    by_cases hw : i < w
    · simp [hw]
    · simp [-BitVec.reduceAllOnes, hi, hw, show w + (i - w) = i by omega]
  constructor
  · rw [high]
    refine BitVec.eq_of_getLsbD_eq fun i hi => ?_
    by_cases hw : i < w
    · simp [hi, hw]
    · simp [hi, hw, show w + (i - w) = i by omega]
  · have le : a.toNat / 2 ^ w * 2 ^ w ≤ a.toNat := Nat.div_mul_le_self ..
    rw [high, BitVec.toNat_shiftLeft, BitVec.toNat_ushiftRight, BitVec.toNat_setWidth, Nat.shiftRight_eq_div_pow,
      Nat.shiftLeft_eq, Nat.mod_eq_of_lt (by omega), Nat.div_add_mod']

/-- Every operation a row answers is the record it was given. -/
def MapRow.AnswersRecords (r : MapRow) : Prop := ∀ a, r.holds a = true → ∀ t, (r.instr a t).IsRecord a t

/-- A row that is one run of `2 ^ w` bytes. -/
theorem answersRecords_row {w : Nat} {pat mask : BitVec 10} (mk : BitVec w → Access → Instr)
    (hrow : mask = BitVec.allOnes 10 <<< w ∧
      ∀ off t, encode (mk off t) = encTxn (pat ||| off.setWidth 10) t ∧ (mk off t).wf = t.wf ∧
        ∀ s, exec (mk off t) s = txn (pat.toNat + off.toNat) t s) :
    MapRow.AnswersRecords ⟨pat, mask, fun a t => mk (a.setWidth w) t⟩ := by
  intro a ha t
  obtain ⟨hmask, hmk⟩ := hrow
  obtain ⟨joined, sum⟩ := rowOffset_split hmask (beq_iff_eq.mp ha)
  obtain ⟨hencode, hwf, hexec⟩ := hmk (a.setWidth w) t
  rw [joined] at hencode
  rw [sum] at hexec
  exact ⟨hencode, hwf, hexec⟩

theorem arrayOffset_split (a : BitVec 10) :
    ((a.extractLsb' 4 3).setWidth 10 <<< 4) ||| (a.setWidth 4).setWidth 10 = (a.setWidth 7).setWidth 10 ∧
    16 * (a.extractLsb' 4 3).toNat + (a.setWidth 4).toNat = (a.setWidth 7).toNat := by
  constructor
  · refine BitVec.eq_of_getLsbD_eq fun i hi => ?_
    by_cases low : i < 4
    · simp [low, hi, show i < 7 by omega]
    · by_cases mid : i < 7
      · simp [low, mid, hi, show 4 + (i - 4) = i by omega, show i - 4 < 3 by omega]
      · simp [low, mid, hi, show ¬ i - 4 < 3 by omega]
  · simp only [BitVec.extractLsb'_toNat, BitVec.toNat_setWidth, Nat.shiftRight_eq_div_pow]
    omega

/-- A row that is an array of eight elements of 16 bytes. -/
theorem answersRecords_array {pat : BitVec 10} (mk : BitVec 3 → BitVec 4 → Access → Instr)
    (hmk : ∀ k byte t, encode (mk k byte t) = encTxn (pat ||| (k.setWidth 10 <<< 4) ||| byte.setWidth 10) t ∧
      (mk k byte t).wf = t.wf ∧
      ∀ s, exec (mk k byte t) s = txn (pat.toNat + 16 * k.toNat + byte.toNat) t s) :
    MapRow.AnswersRecords ⟨pat, 0x380, fun a t => mk (a.extractLsb' 4 3) (a.setWidth 4) t⟩ := by
  intro a ha t
  obtain ⟨joined, sum⟩ := rowOffset_split (w := 7) (mask := 0x380) (by decide) (beq_iff_eq.mp ha)
  obtain ⟨joinedLow, sumLow⟩ := arrayOffset_split a
  obtain ⟨hencode, hwf, hexec⟩ := hmk (a.extractLsb' 4 3) (a.setWidth 4) t
  rw [BitVec.or_assoc, joinedLow, joined] at hencode
  rw [Nat.add_assoc, sumLow, sum] at hexec
  exact ⟨hencode, hwf, hexec⟩

theorem operationMap_answersRecords : ∀ r ∈ operationMap, r.AnswersRecords := by
  simp only [operationMap, List.forall_mem_append, List.forall_mem_cons]
  refine
    ⟨⟨⟨answersRecords_row .accId ?_, answersRecords_row .accVer ?_, answersRecords_row .accTpr ?_,
      answersRecords_row .accApr ?_, answersRecords_row .accPpr ?_, answersRecords_row .accEoi ?_,
      answersRecords_row .accLdr ?_, answersRecords_row .accDfr ?_, answersRecords_row .accSvr ?_,
      answersRecords_array .accIsr fun _ _ _ => ⟨rfl, rfl, fun _ => rfl⟩,
      answersRecords_array .accTmr fun _ _ _ => ⟨rfl, rfl, fun _ => rfl⟩, List.forall_mem_nil _⟩,
    ⟨answersRecords_array .accIrr fun _ _ _ => ⟨rfl, rfl, fun _ => rfl⟩, answersRecords_row .accEsr ?_,
      answersRecords_row .accIcrl ?_, answersRecords_row .accIcrh ?_, answersRecords_row .accLvtt ?_,
      answersRecords_row .accLvtth ?_, answersRecords_row .accLvtpc ?_, answersRecords_row .accLvtl0 ?_,
      answersRecords_row .accLvtl1 ?_, answersRecords_row .accLvterr ?_, answersRecords_row .accTicr ?_,
      List.forall_mem_nil _⟩⟩,
    ⟨answersRecords_row .accTccr ?_, answersRecords_row .accTdcr ?_, answersRecords_row .accRsv0 ?_,
      answersRecords_row .accRsv1 ?_, answersRecords_row .accRsv2 ?_, answersRecords_row .accRsv3Slot41 ?_,
      answersRecords_row .accRsv3Slots42To43 ?_, answersRecords_row .accRsv3Slots44To47 ?_,
      answersRecords_row .accRsv4Slots58To59 ?_, answersRecords_row .accRsv4Slots60To61 ?_,
      answersRecords_row .accRsv5 ?_, List.forall_mem_nil _⟩⟩
  all_goals exact ⟨by decide, fun _ _ => ⟨rfl, rfl, fun _ => rfl⟩⟩

theorem blockInstr_some {a : BitVec 10} {t : Access} {i : Instr} (h : blockInstr a t = some i) : i.IsRecord a t := by
  obtain ⟨r, found, rfl⟩ := Option.map_eq_some_iff.mp h
  exact operationMap_answersRecords r (List.mem_of_find?_eq_some found) a
    (List.find?_some (p := fun r : MapRow => r.holds a) found) t

/-- No row looks at the low four bits of an offset: a row is made of whole slots (30_encoding.md R59). -/
theorem MapRow.holds_slot {r : MapRow} (hr : r ∈ operationMap) (a : BitVec 10) :
    r.holds (a.extractLsb' 4 6 ++ 0#4) = r.holds a := by
  have slots : ∀ r ∈ operationMap, 0x3F0#10 &&& r.mask = r.mask := by decide
  have slotBits : ∀ i < 10, (0x3F0#10).getLsbD i = !decide (i < 4) := by decide
  have first : a.extractLsb' 4 6 ++ 0#4 = a &&& 0x3F0#10 := by
    refine BitVec.eq_of_getLsbD_eq fun i hi => ?_
    rw [BitVec.getLsbD_append, BitVec.getLsbD_and, slotBits i hi]
    by_cases low : i < 4
    · simp [low]
    · simp [low, hi, show 4 + (i - 4) = i by omega, show i - 4 < 6 by omega]
  rw [MapRow.holds, MapRow.holds, first, BitVec.and_assoc, slots r hr]

theorem operationMap_slots (i : BitVec 6) : (operationMap.countP fun r => r.holds (i ++ 0#4)) = 1 := by
  revert i
  decide

theorem operationMap_countP (a : BitVec 10) : (operationMap.countP fun r => r.holds a) = 1 := by
  rw [← operationMap_slots (a.extractLsb' 4 6)]
  exact List.countP_congr fun r hr => by rw [MapRow.holds_slot hr]

/-- Settles O41: the rows are made of whole slots, and each of the 64 slots belongs to one of them. -/
theorem everyOffsetIsInExactlyOneRow : Obligations.EveryOffsetIsInExactlyOneRow := operationMap_countP

theorem blockInstr_total (a : BitVec 10) (t : Access) : ∃ i, blockInstr a t = some i := by
  have found : 0 < operationMap.countP fun r => r.holds a := by rw [operationMap_countP]; exact Nat.one_pos
  obtain ⟨r, hr, ha⟩ := List.countP_pos_iff.mp found
  exact ⟨_, blockInstr_of_holds hr ha t⟩

/-! ### The decoder -/

/-- The bytes are those of the well-formed operation `i`, then `rest`. -/
def Spells (i : Instr) (bs rest : List Byte) : Prop := i.wf = true ∧ bs = encode i ++ rest

theorem Instr.IsRecord.spells {i : Instr} {a : BitVec 10} {t : Access} (h : i.IsRecord a t) (ht : t.wf = true)
    (rest : List Byte) : Spells i (encTxn a t ++ rest) rest :=
  ⟨h.wf_eq.trans ht, by rw [h.encode_eq]⟩

theorem spells_getInstr (f : Field) (x : Slot) (rest : List Byte) :
    Spells (f.getInstr x) (encGet f x ++ rest) rest := by
  cases f <;> exact ⟨rfl, rfl⟩

theorem spells_withInstr {f : Field} (x : Slot) {v : RegWord} (hv : f.fits v = true) (rest : List Byte) :
    Spells (f.withInstr x v) (encWith f x v ++ rest) rest := by
  cases f <;> exact ⟨hv, rfl⟩

theorem access_wf_iff (t : Access) : t.wf = true ↔ 1 ≤ t.size ∧ t.size ≤ 1024 := by
  rw [Access.wf, Bool.and_eq_true, decide_eq_true_eq, decide_eq_true_eq]

/-- The second word of a record is the byte count less one, and bit 10 for a write. -/
theorem recordWord_split {c : BitVec 16} (unused : c >>> 11 = 0#16) :
    c.toNat = (c.getLsbD 10).toNat * 1024 + (c.setWidth 10).toNat := by
  have small : (c.setWidth 11).toNat < 2048 := (c.setWidth 11).isLt
  rw [toNat_setWidth_of_unused unused] at small
  have bit : (c.getLsbD 10).toNat = c.toNat / 2 ^ 10 % 2 := Nat.toNat_testBit ..
  rw [bit, BitVec.toNat_setWidth]
  omega

section
variable {bs rest : List Byte} {i : Instr}

theorem spells_of_decodeTxn {a : BitVec 10} (h : decodeTxn a bs = .ok i rest) : Spells i (encHead 0 a.toNat ++ bs) rest := by
  unfold decodeTxn at h
  split at h
  · cases h
  rename_i c tail taken
  split at h
  case isFalse => cases h
  rename_i unused
  have count : (c.setWidth 10).toNat < 1024 := (c.setWidth 10).isLt
  rw [takeVal_word taken, recordWord_split unused]
  split at h
  · rename_i write
    obtain ⟨d, tail, rfl, hd, hi⟩ := decodeBytes_eq_ok.mp h
    split at hi
    · cases hi
    rename_i j hj
    cases hi
    have wf : (Access.write d).wf = true := (access_wf_iff _).mpr (by rw [Access.size]; omega)
    have bytes := (blockInstr_some hj).spells wf rest
    rw [encTxn, hd, Nat.add_sub_cancel, List.append_assoc, List.append_assoc] at bytes
    rwa [write, Bool.toNat_true, Nat.one_mul]
  · rename_i read
    split at h
    · cases h
    rename_i j hj
    cases h
    have wf : (Access.read ((c.setWidth 10).toNat + 1)).wf = true :=
      (access_wf_iff _).mpr (by rw [Access.size]; omega)
    have bytes := (blockInstr_some hj).spells wf rest
    rw [encTxn, Nat.add_sub_cancel, List.append_assoc] at bytes
    rwa [Bool.eq_false_of_not_eq_true read, Bool.toNat_false, Nat.zero_mul, Nat.zero_add]

theorem spells_of_decodeOp : ∀ {n : Nat}, decodeOp n bs = .ok i rest → Spells i (encHead 1 n ++ bs) rest
  | 0, h => by
    simp only [decodeOp] at h
    split at h
    · cases h
    rename_i c tail taken
    split at h
    · cases h
    rename_i t ht
    cases h
    rw [takeVal_word taken, regType_code_of_getElem? ht]
    exact ⟨rfl, by simp [encode]⟩
  | 1, h => by
    simp only [decodeOp, decodeField_eq_ok, decodeSlot_eq_ok] at h
    obtain ⟨f, _, rfl, x, _, rfl, h⟩ := h
    cases h
    exact ⟨rfl, by simp [encode]⟩
  | 2, h => by
    simp only [decodeOp, decodeField_eq_ok, decodeSlot_eq_ok, decodeOperand_eq_ok] at h
    obtain ⟨f, _, rfl, x, _, rfl, v, _, rfl, hv, h⟩ := h
    cases h
    exact ⟨hv, by simp [encode]⟩
  | 3, h => by
    simp only [decodeOp, decodeField_eq_ok, decodeOperand_eq_ok] at h
    obtain ⟨f, _, rfl, v, _, rfl, hv, h⟩ := h
    cases h
    exact ⟨hv, by simp [encode]⟩
  | 4, h => by
    simp only [decodeOp, decodeSlot_eq_ok] at h
    obtain ⟨x, _, rfl, h⟩ := h
    cases h
    exact ⟨rfl, by simp [encode]⟩
  | 5, h | 9, h => by
    simp only [decodeOp, decodeBytes_eq_ok] at h
    obtain ⟨b, _, rfl, hb, h⟩ := h
    cases h
    exact ⟨beq_iff_eq.mpr hb, by simp [encode]⟩
  | 6, h => by
    simp only [decodeOp, decodeSlot_eq_ok] at h
    obtain ⟨x, _, rfl, y, _, rfl, h⟩ := h
    cases h
    exact ⟨rfl, by simp [encode]⟩
  | 7, h | 8, h => by
    cases h
    exact ⟨rfl, rfl⟩
  | 10, h => by
    simp only [decodeOp, decodeCount_eq_ok] at h
    obtain ⟨a, _, rfl, n, _, rfl, h⟩ := h
    cases h
    exact ⟨rfl, by simp [encode]⟩
  | 11, h => by
    simp only [decodeOp, decodeCount_eq_ok, decodeBytes_eq_ok] at h
    obtain ⟨a, _, rfl, n, _, rfl, d, _, rfl, hd, h⟩ := h
    cases h
    exact ⟨decide_eq_true (hd ▸ n.isLt), by simp [encode, hd]⟩
  | 12, h | 14, h => by
    simp only [decodeOp, decodeEntry_eq_ok] at h
    obtain ⟨e, _, rfl, h⟩ := h
    cases h
    exact ⟨rfl, by simp [encode]⟩
  | 13, h => by
    simp only [decodeOp, decodeEntry_eq_ok, decodeSlot_eq_ok] at h
    obtain ⟨e, _, rfl, v, _, rfl, h⟩ := h
    cases h
    exact ⟨rfl, by simp [encode]⟩
  | 15, h => by
    simp only [decodeOp, decodeEntry_eq_ok, decodeWord32_eq_ok] at h
    obtain ⟨e, _, rfl, v, _, rfl, h⟩ := h
    cases h
    exact ⟨rfl, by simp [encode]⟩
  | 16, h => by
    simp only [decodeOp, decodeEntry_eq_ok, decodeField_eq_ok] at h
    obtain ⟨e, _, rfl, f, _, rfl, h⟩ := h
    split at h
    case isFalse => cases h
    case isTrue hf =>
      cases h
      exact ⟨hf, by simp [encode]⟩
  | 17, h => by
    simp only [decodeOp, decodeEntry_eq_ok, decodeField_eq_ok] at h
    obtain ⟨e, _, rfl, f, _, rfl, h⟩ := h
    split at h
    case isFalse => cases h
    case isTrue hf =>
      obtain ⟨v, _, rfl, hv, h⟩ := decodeOperand_eq_ok.mp h
      cases h
      exact ⟨Bool.and_eq_true_iff.mpr ⟨hf, hv⟩, by simp [encode]⟩
  | _ + 18, h => by cases h

/-- A word is the head of its class, bits 15 to 10, and its payload, bits 9 to 0. -/
theorem takeVal_head {w : BitVec 16} (taken : takeVal 16 2 bs = some (w, rest)) :
    bs = encHead (w >>> 10).toNat (w.setWidth 10).toNat ++ rest := by
  have split : w.toNat = (w >>> 10).toNat * 1024 + (w.setWidth 10).toNat := by
    rw [BitVec.toNat_ushiftRight, BitVec.toNat_setWidth, Nat.shiftRight_eq_div_pow]
    omega
  rw [encHead, ← split]
  exact takeVal_word taken

/-- What the decoder accepts is the encoding of its answer, which is well-formed: class by class. -/
theorem spells_of_decode (h : decode bs = .ok i rest) : Spells i bs rest := by
  unfold decode at h
  split at h
  · cases h
  rename_i w tail taken
  rw [takeVal_head taken]
  split at h
  case h_1 cls => rw [cls]; exact spells_of_decodeTxn h
  case h_2 cls => rw [cls]; exact spells_of_decodeOp h
  case h_3 cls =>
    split at h
    · cases h
    rename_i f hf
    obtain ⟨x, _, rfl, hx⟩ := decodeSlot_eq_ok.mp h
    cases hx
    rw [cls, field_code_of_getElem? hf, ← List.append_assoc]
    exact spells_getInstr f x _
  case h_4 cls =>
    split at h
    · cases h
    rename_i f hf
    simp only [decodeSlot_eq_ok, decodeOperand_eq_ok] at h
    obtain ⟨x, _, rfl, v, _, rfl, hv, hx⟩ := h
    cases hx
    rw [cls, field_code_of_getElem? hf, ← List.append_assoc, ← List.append_assoc]
    exact spells_withInstr x hv _
  case h_5 => cases h

end

/-- Settles O44: each piece of the decoder takes back what the encoder wrote for it (`decode_encode`). -/
theorem decodeOfEncode : Obligations.DecodeOfEncode := fun _ rest hi => decode_encode hi rest

/-- Settles O45: the bytes accepted are those of the answer (`spells_of_decode`). -/
theorem encodeOfDecode : Obligations.EncodeOfDecode := fun _ _ _ h => (spells_of_decode h).2

/-- Settles O46: the checks the decoder makes on the way are those of `Instr.wf` (`spells_of_decode`). -/
theorem decodedOperationsAreWellFormed : Obligations.DecodedOperationsAreWellFormed :=
  fun _ _ _ h => (spells_of_decode h).1

/-- Settles O47: the bytes are those of the operations (`decode_encode`). -/
theorem sampleWordsDecode : Obligations.SampleWordsDecode :=
  ⟨decode_encode (i := .accId 0 (.read 4)) rfl [], decode_encode (i := .accTicr 0 (.write [0xAB#8])) rfl [],
    decode_encode (i := .accIsr 3 5 (.read 1)) rfl [], decode_encode (i := .setf .id .idRegId 3) rfl []⟩

end Sys2Proof
end

section
/-! The rows of the operation map as accesses to the block (30_encoding.md R58, R59). -/

namespace Sys2Proof.Machine

theorem accessRule_of_txn {row : Access → Instr} {addr : Nat} (h : ∀ t s, exec (row t) s = txn addr t s) :
    AccessRule row addr := by
  intro s
  simp only [h]
  exact ⟨fun n hpos hmax => txn_read ((inBlock_iff ..).mpr ⟨hpos, hmax⟩) s,
    fun d hs hpos hmax => stores_of_txn_write hs ((inBlock_iff ..).mpr ⟨hpos, hmax⟩),
    fun t outside => txn_outside (mt (inBlock_iff ..).mp outside) s⟩

/-- Settles O42: some row holds the offset (`blockInstr_total`), and what it answers is the record there
(`blockInstr_some`). -/
theorem rowsActAtTheirOffset : Obligations.RowsActAtTheirOffset := by
  intro a t
  obtain ⟨i, hi⟩ := blockInstr_total a t
  refine ⟨i, hi, accessRule_of_txn fun u s => ?_⟩
  obtain ⟨j, hj⟩ := blockInstr_total a u
  rw [hj, Option.getD_some]
  exact (blockInstr_some hj).exec_eq s

/-- Settles O38: each of the rows is the record at its offset (`accessRule_of_txn`). -/
theorem singleEntryTransactions : Obligations.SingleEntryTransactions := by
  refine ⟨?_, ?_, ?_, ?_, ?_, ?_, ?_, ?_, ?_, ?_, ?_, ?_, ?_, ?_, ?_, ?_, ?_, ?_, ?_, ?_, ?_⟩ <;>
    exact fun _ => accessRule_of_txn fun _ _ => rfl

/-- Settles O39: each of the rows is the record at its offset (`accessRule_of_txn`). -/
theorem arrayEntryTransactions : Obligations.ArrayEntryTransactions := by
  refine ⟨?_, ?_, ?_⟩ <;> exact fun _ _ => accessRule_of_txn fun _ _ => rfl

/-- Settles O40: each of the rows is the record at its offset (`accessRule_of_txn`). -/
theorem reservedRegionTransactions : Obligations.ReservedRegionTransactions := by
  refine ⟨?_, ?_, ?_, ?_, ?_, ?_, ?_, ?_, ?_⟩ <;> exact fun _ => accessRule_of_txn fun _ _ => rfl

end Sys2Proof.Machine
end

section
/-! What a getter sees of a slot and how its result stands in its container (30_encoding.md R57, R61). -/

namespace Sys2Proof.Machine

theorem getField_getLsbD (f : Field) (x : Slot) (i : Nat) :
    (getField f x).getLsbD i = (decide (i < f.width) && x.getLsbD (f.lsb + i)) := getBits_getLsbD ..

/-- A getter looks at named bits only. -/
theorem getField_named (f : Field) (x : Slot) : getField f (x &&& f.regType.named) = getField f x := by
  refine BitVec.eq_of_getLsbD_eq fun i hi => ?_
  rw [getField_getLsbD, getField_getLsbD, BitVec.getLsbD_and, named_getLsbD f (by omega), Bool.and_true]

theorem returns_getf {e : Entry} {f : Field} (hf : f.isOf e = true) (s : State) :
    Returns (exec (.getf e f) s) s (.field f.width (getField f (s.mem.slotAt e.offset))) := if_pos hf

/-- Settles O56: the result is the getter's of the named bits alone (`getField_named`), which the two blocks share. -/
theorem gettersDoNotSeeReservedBits : Obligations.GettersDoNotSeeReservedBits := by
  intro s t e f hf agree
  have sees : getField f (t.mem.slotAt e.offset) = getField f (s.mem.slotAt e.offset) := by
    rw [← getField_named, hf, ← agree, ← hf, getField_named]
  have hof : f.isOf e = true := beq_iff_eq.mpr hf
  exact ⟨_, returns_getf hof s, sees ▸ returns_getf hof t⟩

theorem containerBits_of_le_8 {w : Nat} (h : w ≤ 8) : containerBits w = 8 := if_pos h

theorem containerBits_of_le_16 {w : Nat} (h8 : 8 < w) (h16 : w ≤ 16) : containerBits w = 16 :=
  (if_neg (Nat.not_le.mpr h8)).trans (if_pos h16)

theorem containerBits_mem (w : Nat) : containerBits w = 8 ∨ containerBits w = 16 ∨ containerBits w = 32 := by
  unfold containerBits
  split_ifs <;> simp

theorem le_containerBits {w : Nat} (hw : w ≤ 32) : w ≤ containerBits w := by
  unfold containerBits
  split_ifs <;> omega

/-- Settles O59: a field of at most 32 bits fits in its container, so extending it with zeros keeps its value. -/
theorem containerBitsAboveTheFieldAreZero : Obligations.ContainerBitsAboveTheFieldAreZero := by
  intro f x
  have fits : f.width ≤ containerBits f.width := le_containerBits (by have := field_in_word f; omega)
  exact ⟨BitVec.toNat_setWidth_of_le fits, containerBits_mem _, fits, containerBits_of_le_8, containerBits_of_le_16⟩

end Sys2Proof.Machine
end

section
/-! The field functions `GET` and `WITH` (40_value_ops.md R78, R79): their written-out forms, and the laws of one field and
of two fields that share no bit (R84, R89). -/

namespace Sys2Proof.Machine

/-- The mask of `w` ones as an `n`-bit number. -/
theorem setWidth_allOnes (w n : Nat) : (BitVec.allOnes w).setWidth n = BitVec.ofNat n (2 ^ w - 1) := by
  simp [BitVec.toNat_eq]

theorem getField_eq_extractLsb' (f : Field) (x : Slot) : getField f x = x.extractLsb' f.lsb f.width :=
  BitVec.setWidth_ushiftRight_eq_extractLsb

/-- `WITH` as the claims write it out is the model's. -/
theorem withWritten_eq_withField (f : Field) (x : Slot) (v : RegWord) :
    withWritten f.lsb f.width x v = withField f x v := by
  have hf := field_in_word f
  rw [withWritten, ← setWidth_allOnes, ← BitVec.setWidth_eq_extractLsb' (by omega)]
  rfl

/-! ### One field -/

section
variable {lsb w : Nat} (x : Slot) (v v' : BitVec w) (hw : lsb + w ≤ 128)
include hw

theorem getBits_withBits_same : getBits lsb w (withBits lsb w x v) = v := by
  refine BitVec.eq_of_getLsbD_eq fun i hi => ?_
  rw [getBits_getLsbD, withBits_getLsbD _ _ _ _ _ hw, if_pos ⟨by omega, by omega⟩, Nat.add_sub_cancel_left,
    decide_eq_true hi, Bool.true_and]

theorem withBits_getBits_same : withBits lsb w x (getBits lsb w x) = x := by
  refine BitVec.eq_of_getLsbD_eq fun i _ => ?_
  rw [withBits_getLsbD _ _ _ _ _ hw]
  split
  case isTrue hin => rw [getBits_getLsbD, decide_eq_true (by omega), Bool.true_and, Nat.add_sub_cancel' hin.1]
  case isFalse => rfl

theorem withBits_withBits_same : withBits lsb w (withBits lsb w x v) v' = withBits lsb w x v' := by
  refine BitVec.eq_of_getLsbD_eq fun i _ => ?_
  simp only [withBits_getLsbD _ _ _ _ _ hw]
  split <;> rfl

end

/-- Setting a field keeps every bit of a mask's complement, when the mask covers the field. -/
theorem withBits_and_not {lsb w : Nat} {m : Slot} (x : Slot) (v : BitVec w) (hw : lsb + w ≤ 128)
    (covers : ∀ i, lsb ≤ i ∧ i < lsb + w → m.getLsbD i = true) : withBits lsb w x v &&& ~~~m = x &&& ~~~m := by
  refine BitVec.eq_of_getLsbD_eq fun i _ => ?_
  rw [BitVec.getLsbD_and, BitVec.getLsbD_and, withBits_getLsbD _ _ _ _ _ hw]
  split
  case isTrue hin => simp [covers i hin]
  case isFalse => rfl

/-! ### Two fields -/

/-- The fields share no bit. -/
abbrev Apart (f g : Field) : Prop := f.lsb + f.width ≤ g.lsb ∨ g.lsb + g.width ≤ f.lsb

theorem fields_apart (T : RegType) : ∀ f ∈ T.fields, ∀ g ∈ T.fields, f ≠ g → Apart f g := by cases T <;> decide

/-- Two distinct fields of one type share no bit (30_encoding.md R55). -/
theorem apart_of_regType_eq {f g : Field} (h : f.regType = g.regType) (hne : f ≠ g) : Apart f g :=
  fields_apart g.regType f (h ▸ field_mem_fields f) g (field_mem_fields g) hne

section
variable {f g : Field} (h : Apart f g) (x : Slot) (v : BitVec f.width) (u : BitVec g.width)
include h

theorem getBits_withBits_apart :
    getBits g.lsb g.width (withBits f.lsb f.width x v) = getBits g.lsb g.width x := by
  have hf := field_in_word f
  refine BitVec.eq_of_getLsbD_eq fun i hi => ?_
  rw [getBits_getLsbD, getBits_getLsbD, withBits_getLsbD _ _ _ _ _ (by omega), if_neg (by omega)]

theorem withBits_comm_apart :
    withBits g.lsb g.width (withBits f.lsb f.width x v) u =
      withBits f.lsb f.width (withBits g.lsb g.width x u) v := by
  have hf := field_in_word f
  have hg := field_in_word g
  refine BitVec.eq_of_getLsbD_eq fun i _ => ?_
  rw [withBits_getLsbD _ _ _ _ _ (by omega), withBits_getLsbD _ _ _ _ _ (by omega),
    withBits_getLsbD _ _ _ _ _ (by omega), withBits_getLsbD _ _ _ _ _ (by omega)]
  by_cases hin : g.lsb ≤ i ∧ i < g.lsb + g.width
  · have hout : ¬ (f.lsb ≤ i ∧ i < f.lsb + f.width) := by omega
    simp only [if_pos hin, if_neg hout]
  · simp only [if_neg hin]

end

/-- Settles O14: L1, L3, L4, L5 are laws of any place in the slot, L2 and L6 of two places that share no bit
(`apart_of_regType_eq`). -/
theorem fieldLawsL1ToL6 : Obligations.FieldLawsL1ToL6 := by
  intro f x v v1 v2
  have hf : f.lsb + f.width ≤ 128 := by have := field_in_word f; omega
  refine ⟨getBits_withBits_same x v hf, withBits_and_not x v hf fun _ => slotMask_getLsbD f,
    withBits_getBits_same x hf, withBits_withBits_same x v1 v2 hf, fun g u ht hne => ?_⟩
  have apart := apart_of_regType_eq ht hne
  exact ⟨getBits_withBits_apart apart x v, withBits_comm_apart apart x v u⟩

/-! ### The register word alone -/

theorem getBits_of_word {lsb w : Nat} (x : Slot) (hw : lsb + w ≤ 32) :
    getBits lsb w x = ((x.extractLsb' 0 32 >>> lsb) &&& BitVec.ofNat 32 (2 ^ w - 1)).extractLsb' 0 w := by
  refine BitVec.eq_of_getLsbD_eq fun i hi => ?_
  rw [getBits_getLsbD, ← setWidth_allOnes]
  simp [hi, show lsb + i < 32 by omega, show i < 32 by omega]

/-- `WITH` computed at 32 bits: the padding is carried over. -/
theorem withBits_of_word {lsb w : Nat} (x : Slot) (v : BitVec w) (hw : lsb + w ≤ 32) :
    withBits lsb w x v =
      x.extractLsb' 32 96 ++
        ((x.extractLsb' 0 32 &&& ~~~(BitVec.ofNat 32 (2 ^ w - 1) <<< lsb)) ||| (v.setWidth 32 <<< lsb)) := by
  refine BitVec.eq_of_getLsbD_eq fun i hi => ?_
  rw [withBits, ← setWidth_allOnes, BitVec.getLsbD_append]
  by_cases hword : i < 32
  · simp [hword, hi]
  · have above : ¬ i - lsb < w := by omega
    have hv : v.getLsbD (i - lsb) = false := BitVec.getLsbD_of_ge _ _ (by omega)
    simp [hword, hi, above, hv, show i - 32 < 96 by omega, show 32 + (i - 32) = i by omega]

/-- Settles O17: every field lies in the register word. -/
theorem getAndWithOnTheRegisterWord : Obligations.GetAndWithOnTheRegisterWord :=
  fun f x v => ⟨getBits_of_word x (field_in_word f), withBits_of_word x v (field_in_word f)⟩

end Sys2Proof.Machine
end

section
/-! The value operations (40_value_ops.md R77 to R83, R87) and what the host holds after an operation (log 4). -/

namespace Sys2Proof.Machine

/-- Settles O8: the type is not looked at. -/
theorem defaultReturnsZero : Obligations.DefaultReturnsZero := fun _ _ => ⟨0#128, rfl⟩

/-- Settles O13: the model's comparison is the decision of equality. -/
theorem eqComparesEveryBit : Obligations.EqComparesEveryBit := fun _ _ _ => rfl

theorem returns_getValue (f : Field) (x : Slot) (s : State) :
    Returns (getValue f x s) s (.field f.width (x.extractLsb' f.lsb f.width)) := by
  rw [← getField_eq_extractLsb']
  exact getValue_eq f x s

theorem returnsSlot_withValue (f : Field) (x : Slot) (v : RegWord) (s : State) :
    ReturnsSlot (withValue f x v s) s (withWritten f.lsb f.width x v) := by
  rw [withWritten_eq_withField]
  exact ⟨_, withValue_eq f x v s⟩

/-- Settles O9: the result is the field's bits, and a slot value with the same named bits has the same
(`getField_named`). -/
theorem getReturnsTheFieldBits : Obligations.GetReturnsTheFieldBits := by
  intro f x s
  have hf := field_in_word f
  have shifted : (x >>> f.lsb).extractLsb' 0 f.width = x.extractLsb' f.lsb f.width := by
    rw [← BitVec.setWidth_eq_extractLsb' (by omega)]
    exact getField_eq_extractLsb' f x
  refine ⟨shifted ▸ returns_getValue f x s, returns_getValue f x s, fun y agree => ?_⟩
  have same : x.extractLsb' f.lsb f.width = y.extractLsb' f.lsb f.width := by
    rw [← getField_eq_extractLsb', ← getField_named, agree, getField_named, getField_eq_extractLsb']
  exact same ▸ returns_getValue f y s

/-- A field's value stands in the operand's 32 bits whole. -/
theorem operand_setWidth (f : Field) (v : BitVec f.width) : operand f (v.setWidth 32) = v := by
  have hf := field_in_word f
  rw [operand, BitVec.setWidth_setWidth_of_le v (by omega), BitVec.setWidth_eq]

/-- Setting a field to the value it has changes nothing. -/
theorem withField_getField (f : Field) (x : Slot) : withField f x ((getField f x).setWidth 32) = x := by
  have hf := field_in_word f
  rw [withField, operand_setWidth]
  exact withBits_getBits_same x (by omega)

/-- Settles O10: the model's `WITH` is the written-out one, whose bits `withField_getLsbD` gives. -/
theorem withReplacesTheFieldBits : Obligations.WithReplacesTheFieldBits := by
  intro f x v s
  refine ⟨returnsSlot_withValue f x v s, fun i outside => ?_, ?_⟩
  · rw [withWritten_eq_withField, withField_getLsbD, if_neg outside]
  · rw [withWritten_eq_withField, ← getField_eq_extractLsb', withField_getField]

/-- Settles O11: the model's `WITH` is the written-out one. -/
theorem setReplacesTheHeldValue : Obligations.SetReplacesTheHeldValue := by
  intro f v s
  rw [withWritten_eq_withField]
  rfl

/-- Settles O57: one of the four things a completed operation can do (`exec_effect`) returns a slot value, one is `SET`,
and the other two leave the held value. -/
theorem heldValueIsTheLastSlotReceived : Obligations.HeldValueIsTheLastSlotReceived := by
  intro i s t h
  cases exec_effect h with
  | ret r _ hr => exact .inr (.inl ⟨fun v => by simp [hr v], rfl⟩)
  | give v => exact .inl ⟨v, rfl, rfl, rfl⟩
  | set f v hi => exact .inr (.inr ⟨f, v, hi, rfl, rfl⟩)
  | store => exact .inr (.inl ⟨fun v => by simp, rfl⟩)

/-! ### Slot values as bytes -/

theorem ofBytes_byte (bs : List Byte) {w k : Nat} (hk : 8 * k + 8 ≤ w) :
    (ofBytes w bs).extractLsb' (8 * k) 8 = bs.getD k 0#8 := by
  refine BitVec.eq_of_getLsbD_eq fun i hi => ?_
  rw [BitVec.getLsbD_extractLsb', ofBytes_getLsbD, show (8 * k + i) / 8 = k by omega,
    show (8 * k + i) % 8 = i by omega]
  simp [hi, show 8 * k + i < w by omega]

theorem slotBytes_getD (x : Slot) {k : Nat} (hk : k < 16) : (slotBytes x).getD k 0#8 = x.extractLsb' (8 * k) 8 :=
  bytesOf_getD 16 x k hk

/-- A slot value is its 16 bytes. -/
theorem slot_eq_of_bytes_eq {x y : Slot} (h : ∀ k, k < 16 → x.extractLsb' (8 * k) 8 = y.extractLsb' (8 * k) 8) :
    x = y := by
  refine BitVec.eq_of_getLsbD_eq fun i hi => ?_
  have byte := congrArg (·.getLsbD (i % 8)) (h (i / 8) (by omega))
  simpa [BitVec.getLsbD_extractLsb', show 8 * (i / 8) + i % 8 = i by omega, Nat.mod_lt] using byte

theorem ofBytes_slotBytes (x : Slot) : ofBytes 128 (slotBytes x) = x :=
  slot_eq_of_bytes_eq fun _ hk => (ofBytes_byte _ (by omega)).trans (slotBytes_getD x hk)

theorem slotBytes_ofBytes {b : List Byte} (hb : b.length = 16) : slotBytes (ofBytes 128 b) = b := by
  refine List.ext_getElem (by rw [slotBytes_length, hb]) fun k h1 h2 => ?_
  rw [List.getElem_eq_getD 0#8, List.getElem_eq_getD 0#8, slotBytes_getD _ (by omega), ofBytes_byte _ (by omega)]

theorem exec_fromBytes {b : List Byte} (hb : b.length = 16) (s : State) :
    exec (.fromBytes b) s = .next (s.give (ofBytes 128 b)) := if_pos hb

/-- Settles O12: byte by byte (`slotBytes_getD`, `ofBytes_byte`). -/
theorem toBytesAndFromBytesAreLittleEndian : Obligations.ToBytesAndFromBytesAreLittleEndian :=
  fun s => ⟨fun x => ⟨slotBytes x, slotBytes_length x, fun _ => slotBytes_getD x, rfl⟩,
    fun b hb => ⟨ofBytes 128 b, fun _ hk => ofBytes_byte b (by omega), _, exec_fromBytes hb s⟩⟩

/-- Settles O15: the two conversions are inverse to each other. -/
theorem byteLawsL7AndL8 : Obligations.ByteLawsL7AndL8 := ⟨ofBytes_slotBytes, fun _ => slotBytes_ofBytes⟩

/-- Settles O30: each of the two forms checks the length first. -/
theorem byteSequencesOfAnotherLengthAreRefused : Obligations.ByteSequencesOfAnotherLengthAreRefused :=
  fun _ _ => ⟨fun h => if_neg h, fun h => if_neg h⟩

/-! ### Padding and reserved bits -/

/-- A setter carries the padding over. -/
theorem withField_padding (f : Field) (x : Slot) (v : RegWord) :
    (withField f x v).extractLsb' 32 96 = x.extractLsb' 32 96 := by
  have hf := field_in_word f
  refine BitVec.eq_of_getLsbD_eq fun i _ => ?_
  rw [BitVec.getLsbD_extractLsb', BitVec.getLsbD_extractLsb', withField_getLsbD, if_neg (by omega)]

/-- What every setter of a type keeps, any number of them keep. -/
theorem foldl_withField_keeps {α : Type} (view : Slot → α) {T : RegType}
    (keeps : ∀ f x v, f.regType = T → view (withField f x v) = view x) {sets : List (Field × RegWord)}
    (hT : ∀ p ∈ sets, p.1.regType = T) (x : Slot) :
    view (sets.foldl (fun x p => withField p.1 x p.2) x) = view x := by
  induction sets generalizing x with
  | nil => rfl
  | cons p sets ih =>
    obtain ⟨hp, hsets⟩ := List.forall_mem_cons.mp hT
    rw [List.foldl_cons, ih hsets, keeps _ _ _ hp]

/-- The padding is bytes 4 to 15. -/
theorem padding_eq_zero_iff (x : Slot) :
    x.extractLsb' 32 96 = 0#96 ↔ ∀ k, 4 ≤ k → k < 16 → x.extractLsb' (8 * k) 8 = 0#8 := by
  constructor
  · intro h k h4 h16
    refine BitVec.eq_of_getLsbD_eq fun i hi => ?_
    have bit := congrArg (·.getLsbD (8 * k - 32 + i)) h
    simpa [BitVec.getLsbD_extractLsb', hi, show 8 * k - 32 + i < 96 by omega,
      show 32 + (8 * k - 32 + i) = 8 * k + i by omega] using bit
  · intro h
    refine BitVec.eq_of_getLsbD_eq fun i hi => ?_
    have bit := congrArg (·.getLsbD (i % 8)) (h (4 + i / 8) (by omega) (by omega))
    simpa [BitVec.getLsbD_extractLsb', hi, Nat.mod_lt, show 8 * (4 + i / 8) + i % 8 = 32 + i by omega] using bit

/-- Settles O16: each setter keeps the padding and the bits its type reserves (`withField_padding`,
`withField_reserved`), so any list of them does (`foldl_withField_keeps`). -/
theorem settersAloneKeepPaddingAndReservedZero : Obligations.SettersAloneKeepPaddingAndReservedZero := by
  refine ⟨fun f x v h => (withField_padding f x v).trans h, fun T sets hT => ⟨?_, ?_⟩, fun b _ => ?_⟩
  · exact foldl_withField_keeps (·.extractLsb' 32 96) (fun f x v _ => withField_padding f x v) hT 0#128
  · have reserved : ∀ f x v, f.regType = T → withField f x v &&& ~~~T.named = x &&& ~~~T.named := by
      rintro f x v rfl
      exact withField_reserved f x v
    exact (foldl_withField_keeps (· &&& ~~~T.named) reserved hT 0#128).trans BitVec.zero_and
  · rw [padding_eq_zero_iff]
    exact forall_congr' fun k => forall_congr' fun _ => forall_congr' fun hk => by rw [ofBytes_byte b (by omega)]

end Sys2Proof.Machine
end

section
/-! The rules of the named fields, one per getter and setter row (41_types_core.md, 42_types_lvt_timer.md; 43_regfile_ops.md
R191, R192): one lemma for every field, applied to each. -/

namespace Sys2Proof.Machine

theorem stores_store {s : State} (hs : CanonicalMem s) {a : Nat} {d : List Byte} (ha : a + d.length ≤ 1024) :
    Stores (.next (s.store a d)) s a d :=
  ⟨s.mem.write a d, rfl, fun _ => Memory.read_write_inside hs ha, fun _ => Memory.read_write_outside hs ha⟩

theorem exec_setf {e : Entry} {f : Field} (hf : f.isOf e = true) (v : RegWord) (s : State) :
    exec (.setf e f v) s = .next (s.store e.offset (slotBytes (withField f (s.mem.slotAt e.offset) v))) := if_pos hf

theorem stores_setf {e : Entry} {f : Field} (hf : f.isOf e = true) (v : RegWord) {s : State} (hs : CanonicalMem s) :
    Stores (exec (.setf e f v) s) s e.offset (slotBytes (withField f (s.mem.slotAt e.offset) v)) := by
  rw [exec_setf hf]
  exact stores_store hs (by simpa using entry_in_block e)

/-- Settles O36: `GETF` and `SETF` check the field's type first. -/
theorem fieldOfAnotherTypeIsRefused : Obligations.FieldOfAnotherTypeIsRefused := by
  intro s e f v hne
  have other : ¬ f.isOf e = true := mt beq_iff_eq.mp hne
  exact ⟨if_neg other, if_neg other⟩

/-- The rule of a named field holds of its getter row and its setter row, and of any entries of its type at their
offsets. -/
theorem fieldRule {get : Slot → Instr} {put : Slot → RegWord → Instr} {f : Field} {entries : List (Entry × Nat)}
    (hget : (fun x => exec (get x)) = getValue f) (hput : (fun x v => exec (put x v)) = withValue f)
    (hentries : ∀ p ∈ entries, p.1.offset = p.2 ∧ f.regType = p.1.regType) :
    FieldRule get put f entries f.lsb f.width := by
  intro s x v
  have getter : exec (get x) = getValue f x := congrFun hget x
  have setter : exec (put x v) = withValue f x v := congrFun (congrFun hput x) v
  rw [getter, setter]
  refine ⟨returns_getValue f x s, returnsSlot_withValue f x v s, ?_⟩
  rintro ⟨e, a⟩ hp
  obtain ⟨rfl, hT⟩ : e.offset = a ∧ f.regType = e.regType := hentries _ hp
  have hf : f.isOf e = true := beq_iff_eq.mpr hT
  rw [← getField_eq_extractLsb', withWritten_eq_withField]
  exact ⟨returns_getf hf s, stores_setf hf v⟩

/-- Every element of the three arrays is a bitmap at its offset (10_state.md R18). -/
theorem bitmap_entries (k : BitVec 3) :
    ∀ p ∈ [(Entry.isr k, 0x100 + 16 * k.toNat), (.tmr k, 0x180 + 16 * k.toNat), (.irr k, 0x200 + 16 * k.toNat)],
      p.1.offset = p.2 ∧ Field.bitmask32RegBits.regType = p.1.regType := by
  simp [Entry.offset, Entry.regType, Field.regType]

/-- Settles O18: `fieldRule` at each of the fields. -/
theorem idVersionPriorityFields : Obligations.IdVersionPriorityFields := by
  refine ⟨?_, ?_, ?_, ?_, ?_⟩ <;> exact fieldRule rfl rfl (by decide)

/-- Settles O19: `fieldRule` at each of the fields, the bitmap at every element of the arrays. -/
theorem wholeWordFields : Obligations.WholeWordFields :=
  ⟨fieldRule rfl rfl (by decide), fun k => fieldRule rfl rfl (bitmap_entries k), fieldRule rfl rfl (by decide)⟩

/-- Settles O20: `fieldRule` at each of the fields. -/
theorem destinationFields : Obligations.DestinationFields := by
  refine ⟨?_, ?_, ?_⟩ <;> exact fieldRule rfl rfl (by decide)

/-- Settles O21: `fieldRule` at each of the fields. -/
theorem spuriousVectorFields : Obligations.SpuriousVectorFields := by
  refine ⟨?_, ?_, ?_, ?_⟩ <;> exact fieldRule rfl rfl (by decide)

/-- Settles O22: `fieldRule` at each of the fields. -/
theorem errorStatusFields : Obligations.ErrorStatusFields := by
  refine ⟨?_, ?_, ?_, ?_, ?_, ?_, ?_, ?_⟩ <;> exact fieldRule rfl rfl (by decide)

/-- Settles O24: `fieldRule` at each of the fields. -/
theorem timerAndErrorVectorTableFields : Obligations.TimerAndErrorVectorTableFields := by
  refine ⟨?_, ?_, ?_, ?_, ?_, ?_, ?_⟩ <;> exact fieldRule rfl rfl (by decide)

/-- Settles O25: `fieldRule` at each of the fields. -/
theorem thermalAndPerformanceVectorTableFields : Obligations.ThermalAndPerformanceVectorTableFields := by
  refine ⟨?_, ?_, ?_, ?_, ?_, ?_, ?_, ?_⟩ <;> exact fieldRule rfl rfl (by decide)

/-- Settles O26: `fieldRule` at each of the fields. -/
theorem localInterruptVectorTableFields : Obligations.LocalInterruptVectorTableFields := by
  refine ⟨?_, ?_, ?_, ?_, ?_, ?_, ?_⟩ <;> exact fieldRule rfl rfl (by decide)

/-- Settles O27: `fieldRule` at each of the fields. -/
theorem timerDivisorFields : Obligations.TimerDivisorFields := by
  refine ⟨?_, ?_⟩ <;> exact fieldRule rfl rfl (by decide)

end Sys2Proof.Machine
end

section
/-! The fields of the command low word (41_types_core.md R131 to R137), whose one entry lies at offset 0x300. -/

namespace Sys2Proof.Machine

/-- Settles O23: `fieldRule` at each of the fields. -/
theorem commandLowFields : Obligations.CommandLowFields := by
  refine ⟨?_, ?_, ?_, ?_, ?_, ?_, ?_⟩ <;> exact fieldRule rfl rfl (by decide)

end Sys2Proof.Machine
end

section
/-! The operations and their transaction records (43_regfile_ops.md R180): what the records make of the block, and when an
operation completes (20_memory.md R37, 60_exceptions.md R203). -/

namespace Sys2Proof.Machine

theorem Txn.apply_of_read {x : Txn} {n : Nat} (h : x.access = .read n) (m : Memory) : x.apply m = m := by
  rw [Txn.apply, h]

theorem foldl_apply_of_onlyReads {xs : List Txn} (reads : OnlyReads xs) (m : Memory) : xs.foldl Txn.apply m = m := by
  induction xs with
  | nil => rfl
  | cons x xs ih =>
    obtain ⟨⟨n, hx⟩, hxs⟩ := List.forall_mem_cons.mp reads
    rw [List.foldl_cons, Txn.apply_of_read hx, ih hxs]

/-- Settles O51: of the four things a completed operation can do (`exec_effect`) only one changes the block, by the one
record of the expansion that writes. -/
theorem effectsAreThoseOfTheTransactionRecords : Obligations.EffectsAreThoseOfTheTransactionRecords := by
  intro i s t h
  cases exec_effect h with
  | ret r reads => exact (foldl_apply_of_onlyReads reads s.mem).symm
  | give v reads => exact (foldl_apply_of_onlyReads reads s.mem).symm
  | set f v hi => rw [hi]; rfl
  | store a d rs reads records => rw [records, List.foldl_append, foldl_apply_of_onlyReads reads]; rfl

/-- An operation whose records only read leaves the block. -/
theorem exec_mem_of_onlyReads {i : Instr} {s t : State} (reads : OnlyReads (transactions i s))
    (h : exec i s = .next t) : t.mem = s.mem := by
  rw [effectsAreThoseOfTheTransactionRecords i s t h, foldl_apply_of_onlyReads reads]

theorem inBlock_entry (e : Entry) {n : Nat} (hpos : 1 ≤ n) (hmax : n ≤ 16) : inBlock e.offset n = true := by
  have he := entry_in_block e
  exact (inBlock_iff ..).mpr ⟨hpos, by omega⟩

theorem slotBytes_in_block (e : Entry) (x : Slot) : e.offset + (slotBytes x).length ≤ 1024 := entry_in_block e

theorem inBlock_whole {d : List Byte} (hd : d.length = 1024) : inBlock 0 d.length = true := by rw [hd]; rfl

/-- The domain decides about operation `i` in state `s`: inside it the operation completes, outside it is refused with an
offset and a count that are not in the block. -/
def DomainDecides (i : Instr) (s : State) : Prop :=
  (InDomain i s → ∃ t, exec i s = .next t) ∧
  (¬ InDomain i s → ∃ addr n, exec i s = .refused (.outsideBlock addr n) ∧ ¬ (1 ≤ n ∧ addr + n ≤ 1024))

section
variable {i : Instr} {s t : State} {a : Nat} {u : Access}

theorem inDomain_of_nil (hx : transactions i s = []) : InDomain i s := by simp [InDomain, hx]

theorem inDomain_singleton (hx : transactions i s = [⟨a, u⟩]) : InDomain i s ↔ inBlock a u.size = true := by
  simp [InDomain, hx]

theorem DomainDecides.of_next (inside : InDomain i s) (h : exec i s = .next t) : DomainDecides i s :=
  ⟨fun _ => ⟨t, h⟩, fun outside => absurd inside outside⟩

theorem DomainDecides.of_value (hx : transactions i s = []) (h : exec i s = .next t) : DomainDecides i s :=
  .of_next (inDomain_of_nil hx) h

theorem DomainDecides.of_access (hx : transactions i s = [⟨a, u⟩]) (inside : inBlock a u.size = true)
    (h : exec i s = .next t) : DomainDecides i s := .of_next ((inDomain_singleton hx).mpr inside) h

theorem DomainDecides.of_txn (hx : transactions i s = [⟨a, u⟩]) (h : exec i s = txn a u s) : DomainDecides i s := by
  rw [DomainDecides, inDomain_singleton hx, h]
  refine ⟨fun inside => ?_, fun outside => ⟨a, u.size, txn_outside outside s, mt (inBlock_iff ..).mpr outside⟩⟩
  cases u with
  | read n => exact ⟨_, txn_read inside s⟩
  | write d => exact ⟨_, txn_write inside s⟩

end

theorem exec_rfFromBytes {b : List Byte} (hb : b.length = 1024) (s : State) :
    exec (.rfFromBytes b) s = .next (s.store 0 b) := if_pos hb

theorem domainDecides_rfFromBytes {b : List Byte} (hb : b.length = 1024) (s : State) :
    DomainDecides (.rfFromBytes b) s :=
  .of_access rfl (inBlock_whole hb) (exec_rfFromBytes hb s)

theorem domainDecides_setf {e : Entry} {f : Field} (hf : f.isOf e = true) (v : RegWord) (s : State) :
    DomainDecides (.setf e f v) s := by
  have inside : InDomain (.setf e f v) s := by
    simp [InDomain, transactions, Access.size, inBlock_entry e]
  exact .of_next inside (exec_setf hf v s)

/-- Settles O52: a value operation has no record and completes, an entry's or the whole block's records lie in the block,
and any other operation is its one record (`DomainDecides.of_txn`). -/
theorem completesExactlyInsideTheDomain : Obligations.CompletesExactlyInsideTheDomain := by
  intro i s hwf
  change DomainDecides i s
  cases i with
  | fromBytes b => exact .of_value rfl (exec_fromBytes (beq_iff_eq.mp hwf) s)
  | rfDefault => exact .of_access rfl (inBlock_whole List.length_replicate) rfl
  | rfToBytes => exact .of_access rfl (by decide) rfl
  | rfFromBytes b => exact domainDecides_rfFromBytes (beq_iff_eq.mp hwf) s
  | rds e => exact .of_access rfl (inBlock_entry e (by decide) (by decide)) rfl
  | wrs e v => exact .of_access rfl (inBlock_entry e (by simp [Access.size]) (by simp [Access.size])) rfl
  | rdw e => exact .of_access rfl (inBlock_entry e (by decide) (by decide)) rfl
  | wrw e v => exact .of_access rfl (inBlock_entry e (by simp [Access.size]) (by simp [Access.size])) rfl
  | getf e f => exact .of_access rfl (inBlock_entry e (by decide) (by decide)) (returns_getf hwf s)
  | setf e f v => exact domainDecides_setf (Bool.and_eq_true_iff.mp hwf).1 v s
  | rd | wr | accId | accVer | accTpr | accApr | accPpr | accEoi | accLdr | accDfr | accSvr | accIsr | accTmr | accIrr
    | accEsr | accIcrl | accIcrh | accLvtt | accLvtth | accLvtpc | accLvtl0 | accLvtl1 | accLvterr | accTicr
    | accTccr | accTdcr | accRsv0 | accRsv1 | accRsv2 | accRsv3Slot41 | accRsv3Slots42To43 | accRsv3Slots44To47
    | accRsv4Slots58To59 | accRsv4Slots60To61 | accRsv5 =>
    exact .of_txn rfl rfl
  | _ =>
    -- the other value operations and the getter and setter rows
    exact .of_value rfl rfl

end Sys2Proof.Machine
end

section
/-! Values in the block: what a slot or a register word reads as after a write, and when two writes leave the same block
(20_memory.md R31, R37; 43_regfile_ops.md R187 to R190). -/

namespace Sys2Proof.Machine

theorem Memory.valAt_congr {m m' : Memory} {a n : Nat} (h : ∀ k, k < n → m.read (a + k) = m'.read (a + k)) :
    m.valAt a n = m'.valAt a n := by
  refine BitVec.eq_of_getLsbD_eq fun i hi => ?_
  rw [Memory.valAt_getLsbD _ _ _ hi, Memory.valAt_getLsbD _ _ _ hi, h _ (by omega)]

/-- The register word is the low 32 bits of the slot (10_state.md R17). -/
theorem Memory.wordAt_eq_slotAt (m : Memory) (a : Nat) : m.wordAt a = (m.slotAt a).extractLsb' 0 32 := by
  refine BitVec.eq_of_getLsbD_eq fun i hi => ?_
  rw [BitVec.getLsbD_extractLsb', decide_eq_true hi, Bool.true_and, Nat.zero_add, Memory.wordAt, Memory.slotAt,
    Memory.valAt_getLsbD _ _ _ hi, Memory.valAt_getLsbD _ _ _ (by omega)]

/-- The byte sequence of the whole block. -/
theorem Memory.bytesAt_zero (m : Memory) (n : Nat) : m.bytesAt 0 n = (List.range n).map m.read := by
  simp [Memory.bytesAt]

section
variable {m : Memory} (h : m.wf = true) {a : Nat}
include h

theorem Memory.bytesAt_write {d : List Byte} {n : Nat} (hd : d.length = n) (ha : a + n ≤ 1024) :
    (m.write a d).bytesAt a n = d := by
  subst hd
  refine List.ext_getElem (Memory.bytesAt_length ..) fun k _ hk => ?_
  rw [List.getElem_eq_getD 0#8, List.getElem_eq_getD 0#8, Memory.bytesAt_getD _ _ _ _ hk,
    Memory.read_write_inside h ha hk]

/-- A value stored as its bytes is read back (20_memory.md R43). -/
theorem Memory.valAt_write_bytesOf {n : Nat} (v : BitVec (8 * n)) (ha : a + n ≤ 1024) :
    (m.write a (bytesOf n v)).valAt a n = v := by
  refine BitVec.eq_of_getLsbD_eq fun i hi => ?_
  have hk : i / 8 < n := by omega
  rw [Memory.valAt_getLsbD _ _ _ hi, Memory.read_write_inside h (by simpa using ha) (by simpa using hk),
    bytesOf_getD _ _ _ hk, BitVec.getLsbD_extractLsb', decide_eq_true (Nat.mod_lt i (by decide)), Bool.true_and,
    Nat.div_add_mod]

theorem Memory.slotAt_write_slotBytes (x : Slot) (ha : a + 16 ≤ 1024) : (m.write a (slotBytes x)).slotAt a = x :=
  Memory.valAt_write_bytesOf (n := 16) h x ha

theorem Memory.wordAt_write_wordBytes (v : RegWord) (ha : a + 4 ≤ 1024) : (m.write a (wordBytes v)).wordAt a = v :=
  Memory.valAt_write_bytesOf (n := 4) h v ha

theorem Memory.valAt_write_apart {d : List Byte} (ha : a + d.length ≤ 1024) {c n : Nat}
    (apart : a + d.length ≤ c ∨ c + n ≤ a) : (m.write a d).valAt c n = m.valAt c n :=
  Memory.valAt_congr fun _ _ => Memory.read_write_outside h ha (by omega)

/-- A write leaves the one canonical block that holds its bytes where they go and the old ones elsewhere. -/
theorem Memory.write_eq_of_reads {m' : Memory} (h' : m'.wf = true) {d : List Byte} (ha : a + d.length ≤ 1024)
    (inside : ∀ k, k < d.length → m'.read (a + k) = d.getD k 0#8)
    (outside : ∀ c, c < 1024 → ¬ (a ≤ c ∧ c < a + d.length) → m'.read c = m.read c) : m.write a d = m' := by
  refine Memory.eq_of_read_eq (Memory.wf_write h ha) h' fun c hc => ?_
  by_cases hin : a ≤ c ∧ c < a + d.length
  · obtain ⟨k, rfl⟩ := Nat.exists_eq_add_of_le hin.1
    rw [Memory.read_write_inside h ha (by omega), inside k (by omega)]
  · rw [Memory.read_write_outside h ha hin, outside c hc hin]

/-- Of two writes of the same bytes of the block the second stays. -/
theorem Memory.write_overwrite {d d' : List Byte} (hd : d.length = d'.length) (ha : a + d'.length ≤ 1024) :
    (m.write a d).write a d' = m.write a d' := by
  have once : (m.write a d).wf = true := Memory.wf_write h (hd ▸ ha)
  refine Memory.write_eq_of_reads once (Memory.wf_write h ha) ha (fun k => Memory.read_write_inside h ha)
    fun c _ hout => ?_
  rw [Memory.read_write_outside h ha hout, Memory.read_write_outside h (hd ▸ ha) (hd ▸ hout)]

/-- Writes of bytes apart commute. -/
theorem Memory.write_comm {d d' : List Byte} {c : Nat} (ha : a + d.length ≤ 1024) (hc : c + d'.length ≤ 1024)
    (apart : a + d.length ≤ c ∨ c + d'.length ≤ a) :
    (m.write a d).write c d' = (m.write c d').write a d := by
  have first : (m.write a d).wf = true := Memory.wf_write h ha
  have second : (m.write c d').wf = true := Memory.wf_write h hc
  refine Memory.write_eq_of_reads first (Memory.wf_write second ha) hc (fun k hk => ?_) fun b _ hout => ?_
  · rw [Memory.read_write_outside second ha (by omega), Memory.read_write_inside h hc hk]
  · by_cases hin : a ≤ b ∧ b < a + d.length
    · obtain ⟨k, rfl⟩ := Nat.exists_eq_add_of_le hin.1
      have hk : k < d.length := by omega
      rw [Memory.read_write_inside second ha hk, Memory.read_write_inside h ha hk]
    · rw [Memory.read_write_outside second ha hin, Memory.read_write_outside h hc hout,
        Memory.read_write_outside h ha hin]

end

/-- Byte `k` of a slot value whose register word is replaced by `w`. -/
theorem byte_of_replaced_word (x : Slot) (w : RegWord) {k : Nat} (hk : k < 16) :
    (x.extractLsb' 32 96 ++ w : Slot).extractLsb' (8 * k) 8 =
      if k < 4 then w.extractLsb' (8 * k) 8 else x.extractLsb' (8 * k) 8 := by
  split
  case isTrue => exact BitVec.extractLsb'_append_eq_of_add_le (by omega)
  case isFalse =>
    rw [BitVec.extractLsb'_append_eq_of_le (by omega)]
    refine BitVec.eq_of_getLsbD_eq fun i hi => ?_
    simp [hi, show 8 * k - 32 + i < 96 by omega, show 32 + (8 * k - 32 + i) = 8 * k + i by omega]

/-- Writing the register word is writing the slot with its padding as it was (43_regfile_ops.md R190). -/
theorem Memory.write_wordBytes {m : Memory} (h : m.wf = true) {a : Nat} (w : RegWord) (ha : a + 16 ≤ 1024) :
    m.write a (wordBytes w) = m.write a (slotBytes ((m.slotAt a).extractLsb' 32 96 ++ w : Slot)) := by
  have inSlot : ∀ y : Slot, a + (slotBytes y).length ≤ 1024 := fun y => by simpa using ha
  have byte : ∀ (y : Slot) (k : Nat), k < 16 → (m.write a (slotBytes y)).read (a + k) = y.extractLsb' (8 * k) 8 :=
    fun y k hk => by rw [Memory.read_write_inside h (inSlot y) (by simpa using hk), slotBytes_getD y hk]
  refine Memory.write_eq_of_reads h (Memory.wf_write h (inSlot _)) (by rw [wordBytes_length]; omega) (fun k hk => ?_)
    fun c _ hout => ?_
  · rw [wordBytes_length] at hk
    rw [byte _ k (by omega), byte_of_replaced_word _ _ (by omega), if_pos hk, wordBytes, bytesOf_getD _ _ _ hk]
  · rw [wordBytes_length] at hout
    by_cases hin : a ≤ c ∧ c < a + 16
    · obtain ⟨k, rfl⟩ := Nat.exists_eq_add_of_le hin.1
      rw [byte _ k (by omega), byte_of_replaced_word _ _ (by omega), if_neg (by omega)]
      exact Memory.valAt_byte m a 16 k (by omega)
    · exact Memory.read_write_outside h (inSlot _) (by simpa using hin)

end Sys2Proof.Machine
end

section
/-! The block-level operations (43_regfile_ops.md R181 to R194). -/

namespace Sys2Proof.Machine

/-! ### The whole block -/

/-- Settles O28: the block of zeros is the reset block (`Memory.write_eq_of_reads`). -/
theorem rfDefaultZeroesTheBlock : Obligations.RfDefaultZeroesTheBlock := by
  refine fun s hs => ⟨?_, fun _ _ => rfl⟩
  have zeros : s.mem.write 0 (List.replicate 1024 0#8) = State.reset.mem := by
    refine Memory.write_eq_of_reads hs State.reset_wf (by rw [List.length_replicate]) (fun k hk => ?_)
      fun c hc hout => ?_
    · rw [List.length_replicate] at hk
      rw [List.getD_replicate _ hk]
      rfl
    · rw [List.length_replicate] at hout
      omega
  rw [← zeros]
  rfl

theorem returns_rfToBytes (s : State) : Returns (exec .rfToBytes s) s (.bytes (s.mem.bytesAt 0 1024)) := rfl

/-- Settles O29: the bytes stored are read back (`Memory.bytesAt_write`), and the block that holds the bytes read is the
block they were read from (`Memory.write_eq_of_reads`). -/
theorem wholeBlockConversionsAreLossless : Obligations.WholeBlockConversionsAreLossless := by
  intro s
  rw [← Memory.bytesAt_zero]
  refine ⟨returns_rfToBytes s, fun b hb hs => ⟨?_, fun t ht => ?_⟩, fun hs => ?_⟩
  · rw [exec_rfFromBytes hb]
    exact stores_store hs (by omega)
  · rw [exec_rfFromBytes hb] at ht
    cases ht
    have stored := returns_rfToBytes (s.store 0 b)
    rwa [State.store_mem, Memory.bytesAt_write hs hb (by omega)] at stored
  · have len := Memory.bytesAt_length s.mem 0 1024
    have same : s.mem.write 0 (s.mem.bytesAt 0 1024) = s.mem :=
      Memory.write_eq_of_reads hs hs (by omega) (fun k hk => (Memory.bytesAt_getD _ _ _ _ (by omega)).symm)
        fun _ _ _ => rfl
    rw [exec_rfFromBytes len, State.store, same]

/-! ### Slots and register words -/

theorem exec_wrs (e : Entry) (v : Slot) (s : State) :
    exec (.wrs e v) s = .next (s.store e.offset (slotBytes v)) := rfl

theorem exec_wrw (e : Entry) (v : RegWord) (s : State) :
    exec (.wrw e v) s = .next (s.store e.offset (wordBytes v)) := rfl

theorem returnsSlot_rds (e : Entry) (s : State) : ReturnsSlot (exec (.rds e) s) s (s.mem.slotAt e.offset) :=
  ⟨_, rfl⟩

theorem returns_rdw (e : Entry) (s : State) : Returns (exec (.rdw e) s) s (.word (s.mem.wordAt e.offset)) := rfl

/-- Settles O32: the slot's bytes are those of the value read (`Memory.valAt_byte`), and a value stored is read back. -/
theorem slotReadsAndWrites : Obligations.SlotReadsAndWrites := by
  intro s e v
  have he := entry_in_block e
  refine ⟨⟨_, Memory.valAt_byte s.mem e.offset 16, returnsSlot_rds e s⟩, fun hs => ⟨?_, fun t ht => ?_⟩⟩
  · rw [exec_wrs]
    exact stores_store hs (slotBytes_in_block ..)
  · rw [exec_wrs] at ht
    cases ht
    have stored := returnsSlot_rds e (s.store e.offset (slotBytes v))
    rwa [State.store_mem, Memory.slotAt_write_slotBytes hs v he] at stored

/-- Settles O33: as O32 for the word, whose write is that of a slot with the same padding (`Memory.write_wordBytes`). -/
theorem wordReadsAndWrites : Obligations.WordReadsAndWrites := by
  intro s e v
  have he := entry_in_block e
  refine ⟨⟨_, Memory.valAt_byte s.mem e.offset 4, Memory.wordAt_eq_slotAt .., returns_rdw e s⟩,
    fun hs => ⟨?_, fun t ht => ?_⟩⟩
  · rw [exec_wrw]
    exact stores_store hs (by rw [wordBytes_length]; omega)
  · rw [exec_wrw] at ht
    cases ht
    have stored := returns_rdw e (s.store e.offset (wordBytes v))
    rw [State.store_mem, Memory.wordAt_write_wordBytes hs v (by omega)] at stored
    refine ⟨stored, ?_⟩
    rw [State.store_mem, Memory.write_wordBytes hs v he, Memory.slotAt_write_slotBytes hs _ he]
    exact BitVec.extractLsb'_append_eq_left

/-! ### Fields -/

/-- What `SETF` makes of the block (`exec_setf`). -/
def Memory.setField (m : Memory) (e : Entry) (f : Field) (v : RegWord) : Memory :=
  m.write e.offset (slotBytes (withField f (m.slotAt e.offset) v))

theorem setf_mem {e : Entry} {f : Field} {v : RegWord} {s t : State} (h : exec (.setf e f v) s = .next t) :
    t.mem = s.mem.setField e f v := by
  obtain ⟨-, rfl⟩ := setf_next h
  rfl

theorem exec_setf_setField {e : Entry} {f : Field} (hf : f.isOf e = true) (v : RegWord) (s : State) :
    exec (.setf e f v) s = .next { s with mem := s.mem.setField e f v } := exec_setf hf v s

theorem entry_slot_mul (e : Entry) : 16 * e.slot = e.offset :=
  Nat.mul_div_cancel' (Nat.dvd_of_mod_eq_zero (entry_aligned e))

/-- Two entries' slots share no byte (10_state.md R18). -/
theorem entry_slots_apart {e e' : Entry} (hne : e ≠ e') : e.offset + 16 ≤ e'.offset ∨ e'.offset + 16 ≤ e.offset := by
  have slots : e.slot ≠ e'.slot := fun h => hne <| Option.some.inj <| by
    rw [← entry_ofSlot_slot e, h, entry_ofSlot_slot]
  have h1 := entry_slot_mul e
  have h2 := entry_slot_mul e'
  omega

section
variable {m : Memory} (h : m.wf = true) (e : Entry) (f : Field) (v : RegWord)
include h

theorem Memory.wf_setField : (m.setField e f v).wf = true :=
  Memory.wf_write h (slotBytes_in_block ..)

theorem Memory.setField_slotAt_same :
    (m.setField e f v).slotAt e.offset = withField f (m.slotAt e.offset) v :=
  Memory.slotAt_write_slotBytes h _ (entry_in_block e)

theorem Memory.setField_slotAt_other {e e' : Entry} (hne : e ≠ e') :
    (m.setField e f v).slotAt e'.offset = m.slotAt e'.offset :=
  Memory.valAt_write_apart h (slotBytes_in_block ..) (by simpa using entry_slots_apart hne)

theorem Memory.setField_read_outside {c : Nat} (hc : ¬ (e.offset ≤ c ∧ c < e.offset + 16)) :
    (m.setField e f v).read c = m.read c :=
  Memory.read_write_outside h (slotBytes_in_block ..) (by simpa using hc)

end

/-- Settles O34: the field lies in the register word, and the slot after `SETF` is `WITH` of the slot before
(`Memory.setField_slotAt_same`). -/
theorem fieldAccessOnTheBlock : Obligations.FieldAccessOnTheBlock := by
  intro s e f v hT
  have hf : f.isOf e = true := beq_iff_eq.mpr hT
  have hw := field_in_word f
  rw [withWritten_eq_withField]
  refine ⟨getField_eq_extractLsb' f _ ▸ returns_getf hf s, ?_, fun hs => ⟨stores_setf hf v hs, fun t ht i => ?_⟩⟩
  · rw [Memory.wordAt_eq_slotAt]
    refine BitVec.eq_of_getLsbD_eq fun i hi => ?_
    simp [hi, show f.lsb + i < 32 by omega]
  · rw [setf_mem ht, Memory.setField_slotAt_same hs, withField_getLsbD]

/-- Settles O35: `WITH` is its 32-bit form on the word with the padding carried over (`withBits_of_word`), and so is the
write of the word (`Memory.write_wordBytes`). -/
theorem fieldSetNeedsOnlyTheRegisterWord : Obligations.FieldSetNeedsOnlyTheRegisterWord := by
  intro s e f v hT hs
  have hw := field_in_word f
  refine ⟨_, exec_setf (beq_iff_eq.mpr hT) v s, ?_⟩
  rw [exec_wrw, State.store, State.store, Memory.write_wordBytes hs _ (entry_in_block e), Memory.wordAt_eq_slotAt,
    withField, withBits_of_word _ _ hw, operand,
    ← BitVec.setWidth_eq_extractLsb' (show f.width ≤ 32 by omega)]

/-! ### The laws of the accessors (R194) -/

theorem getField_withField_same (f : Field) (x : Slot) (v : RegWord) :
    getField f (withField f x v) = v.setWidth f.width :=
  getBits_withBits_same x _ (by have := field_in_word f; omega)

/-- B2: a field set leaves what every other field of the block reads as. -/
theorem Memory.getField_setField_other {m : Memory} (h : m.wf = true) {e e' : Entry} {f g : Field} (v : RegWord)
    (hf : f.regType = e.regType) (hg : g.regType = e'.regType) (hne : (e, f) ≠ (e', g)) :
    getField g ((m.setField e f v).slotAt e'.offset) = getField g (m.slotAt e'.offset) := by
  by_cases he : e = e'
  · subst he
    have apart : Apart f g := apart_of_regType_eq (hf.trans hg.symm) (by simpa using hne)
    rw [Memory.setField_slotAt_same h]
    exact getBits_withBits_apart apart ..
  · rw [Memory.setField_slotAt_other h _ _ he]

/-- B4: two field sets commute. -/
theorem Memory.setField_comm {m : Memory} (h : m.wf = true) {e e' : Entry} {f g : Field} (v u : RegWord)
    (hf : f.regType = e.regType) (hg : g.regType = e'.regType) (hne : (e, f) ≠ (e', g)) :
    (m.setField e f v).setField e' g u = (m.setField e' g u).setField e f v := by
  by_cases he : e = e'
  · subst he
    have apart : Apart f g := apart_of_regType_eq (hf.trans hg.symm) (by simpa using hne)
    have values : ∀ x, withField g (withField f x v) u = withField f (withField g x u) v :=
      fun x => withBits_comm_apart apart x _ _
    rw [setField, setField_slotAt_same h, setField, write_overwrite h (by simp) (slotBytes_in_block ..), setField,
      setField_slotAt_same h, setField, write_overwrite h (by simp) (slotBytes_in_block ..), values]
  · rw [setField, setField_slotAt_other h _ _ he, setField, setField, setField_slotAt_other h _ _ (Ne.symm he),
      setField]
    exact write_comm h (slotBytes_in_block ..) (slotBytes_in_block ..) (by simpa using entry_slots_apart he)

/-- Settles O37: B1 to B3 are what the block reads as after a field set, B4 is `Memory.setField_comm`, and the records of
the operations of B5 only read. -/
theorem blockAccessorLawsB1ToB5 : Obligations.BlockAccessorLawsB1ToB5 := by
  intro s e e' f g v u hs hTf hTg hne
  have hf : f.isOf e = true := beq_iff_eq.mpr hTf
  have hg : g.isOf e' = true := beq_iff_eq.mpr hTg
  refine ⟨fun t ht => ?_, ?_, fun t => exec_mem_of_onlyReads (onlyReads_read _ _),
    fun addr n t => exec_mem_of_onlyReads (onlyReads_read _ _), fun t => exec_mem_of_onlyReads (onlyReads_read _ _),
    fun t => exec_mem_of_onlyReads (onlyReads_read _ _), fun t => exec_mem_of_onlyReads (onlyReads_read _ _)⟩
  · have read_f := returns_getf hf t
    have read_g := returns_getf hg t
    rw [setf_mem ht, Memory.setField_slotAt_same hs, getField_withField_same] at read_f
    rw [setf_mem ht, Memory.getField_setField_other hs v hTf hTg hne] at read_g
    refine ⟨read_f, ⟨_, returns_getf hg s, read_g⟩, fun c hc => ?_, fun i hi => ?_⟩
    · rw [setf_mem ht, Memory.setField_read_outside hs e f v hc]
    · rw [setf_mem ht, Memory.setField_slotAt_same hs, withField_getLsbD, if_neg hi]
  · refine ⟨_, _, _, exec_setf_setField hf v s, exec_setf_setField hg u _, exec_setf_setField hg u s, ?_⟩
    rw [exec_setf_setField hf, Memory.setField_comm hs v u hTf hTg hne]

/-! ### The register file's map (R182) -/

/-- Settles O31: the offsets and types are the listed ones entry by entry, and every offset is a multiple of 16. -/
theorem entryOffsetsAreTheListedOnes : Obligations.EntryOffsetsAreTheListedOnes :=
  ⟨⟨rfl, rfl⟩, ⟨rfl, rfl⟩, ⟨rfl, rfl⟩, ⟨rfl, rfl⟩, ⟨rfl, rfl⟩, ⟨rfl, rfl⟩, ⟨rfl, rfl⟩, ⟨rfl, rfl⟩, ⟨rfl, rfl⟩,
    fun _ => ⟨rfl, rfl⟩, fun _ => ⟨rfl, rfl⟩, fun _ => ⟨rfl, rfl⟩,
    ⟨rfl, rfl⟩, ⟨rfl, rfl⟩, ⟨rfl, rfl⟩, ⟨rfl, rfl⟩, ⟨rfl, rfl⟩, ⟨rfl, rfl⟩, ⟨rfl, rfl⟩, ⟨rfl, rfl⟩, ⟨rfl, rfl⟩,
    ⟨rfl, rfl⟩, ⟨rfl, rfl⟩, ⟨rfl, rfl⟩, entry_slot_mul, rfl⟩

end Sys2Proof.Machine
end

section
/-! The exception causes (60_exceptions.md R200). -/

namespace Sys2Proof.Machine

theorem fault_isEmpty : IsEmpty Fault := ⟨fun r => nomatch r⟩

/-- Settles O53: a step that faulted would carry a cause, and there is none (`fault_isEmpty`). -/
theorem noStepFaults : Obligations.NoStepFaults :=
  ⟨fun _ r _ => fault_isEmpty.false r, fun ⟨r, _⟩ => fault_isEmpty.false r⟩

end Sys2Proof.Machine
end

section
/-! Reset (70_reset_and_hazards.md R222), and a host that writes zero to reserved bits (70_reset_and_hazards.md R225). -/

namespace Sys2Proof.Machine

/-! ### A host that keeps its obligation -/

/-- The obligation is one on every record of an operation other than a field set. -/
theorem respectsReserved_iff {i : Instr} (s : State) (hi : ∀ e f v, i ≠ .setf e f v) :
    RespectsReserved i s ↔ ∀ x ∈ transactions i s, x.ZeroReserved := by
  unfold RespectsReserved
  split
  next e f v => exact absurd rfl (hi e f v)
  next => rfl

/-- A field set writes back the reserved bits it read; any other operation writes only what the host's obligation
covers. -/
theorem exec_keeps_clean_of_respectsReserved {i : Instr} {s s' : State} (hs : CanonicalMem s) (hc : Clean s)
    (respects : RespectsReserved i s) (h : exec i s = .next s') : Clean s' := by
  by_cases setf : ∃ e f v, i = .setf e f v
  · obtain ⟨e, f, v, rfl⟩ := setf
    exact setf_keeps_clean hs hc h
  · push Not at setf
    exact exec_keeps_clean hs hc h ((respectsReserved_iff s setf).mp respects)

/-- Settles O55: a step does nothing or performs one operation (`step_next`), and that operation keeps the block clean. -/
theorem hostRespectingReservedBitsKeepsTheBlockClean : Obligations.HostRespectingReservedBitsKeepsTheBlockClean := by
  intro s t hs hc respects h
  obtain rfl | ⟨i, rest, hd, h⟩ := step_next h
  · exact hc
  · exact exec_keeps_clean_of_respectsReserved (s := s.advance rest) hs hc (respects i rest hd) h

/-! ### The reset state -/

@[simp] theorem Memory.slotAt_nil (a : Nat) : Memory.slotAt [] a = 0#128 := by
  refine BitVec.eq_of_getLsbD_eq fun i hi => ?_
  rw [Memory.slotAt, Memory.valAt_getLsbD [] a 16 hi, Memory.read_nil, BitVec.getLsbD_zero, BitVec.getLsbD_zero]

@[simp] theorem Memory.bytesAt_nil (a n : Nat) : Memory.bytesAt [] a n = List.replicate n 0#8 := by
  simp [Memory.bytesAt]

@[simp] theorem getField_zero (f : Field) : getField f 0#128 = 0#f.width := by
  rw [getField_eq_extractLsb', BitVec.extractLsb'_zero]

/-- Settles O1: no byte is listed at reset, so every slot and every field of one is zero. -/
theorem resetStateIsZeroAndClean : Obligations.ResetStateIsZeroAndClean := by
  refine ⟨fun a _ => Memory.read_nil a, fun e f hf => ?_, ?_, clean_reset⟩
  · have read := returns_getf (beq_iff_eq.mpr hf : f.isOf e = true) State.reset
    rwa [State.reset_mem, Memory.slotAt_nil, getField_zero] at read
  · have read := returns_rfToBytes State.reset
    rwa [State.reset_mem, Memory.bytesAt_nil] at read

end Sys2Proof.Machine
end

section
/-! The masks of the register types (30_encoding.md R54, R55): a type's packed list of descriptors gives them both. -/

namespace Sys2Proof.Machine

/-- `mask(w) << lsb` at 32 bits: the word mask of a field with the descriptor `(lsb, w)` (30_encoding.md R54). -/
def descriptorMask (d : Nat × Nat) : RegWord := (BitVec.allOnes d.2).setWidth 32 <<< d.1

/-- The bits of the register word that a packed list of descriptors names. -/
def packedMask (ds : List (Nat × Nat)) : RegWord := ds.foldr (fun d m => descriptorMask d ||| m) 0#32

/-- A field takes only bits of the register word, so its word mask says all of its slot mask. -/
theorem slotMask_eq_descriptorMask (f : Field) :
    f.slotMask = (descriptorMask (f.lsb, f.width)).setWidth 128 := by
  have hf := field_in_word f
  refine BitVec.eq_of_getLsbD_eq fun i hi => ?_
  by_cases word : i < 32
  · simp [Field.slotMask, descriptorMask, word, hi]
  · simp [Field.slotMask, descriptorMask, word, show ¬ i - f.lsb < f.width by omega]

theorem foldr_slotMask_eq_packedMask (fs : List Field) :
    fs.foldr (fun f m => f.slotMask ||| m) 0#128 =
      (packedMask (fs.map fun f => (f.lsb, f.width))).setWidth 128 := by
  induction fs with
  | nil => rfl
  | cons f fs ih =>
    rw [List.foldr_cons, ih, slotMask_eq_descriptorMask, ← BitVec.setWidth_or, packedMask, packedMask, List.map_cons,
      List.foldr_cons]

/-- `RSVD = ~NAMED` at 32 bits (30_encoding.md R55). -/
theorem not_setWidth_low_word (m : RegWord) : (~~~m.setWidth 128).extractLsb' 0 32 = ~~~m := by
  refine BitVec.eq_of_getLsbD_eq fun i hi => ?_
  simp [hi, show i < 128 by omega]

/-- The descriptors of a type determine its row of R55: `NAMED` is the mask they pack to and `RSVD` its complement. -/
theorem typeMasks {T : RegType} {ds : List (Nat × Nat)} {named : Slot} {rsvd : RegWord}
    (hfields : T.fields.map (fun f => (f.lsb, f.width)) = ds) (hnamed : (packedMask ds).setWidth 128 = named)
    (hrsvd : ~~~packedMask ds = rsvd) :
    T.named = named ∧ T.fields.map (fun f => (f.lsb, f.width)) = ds ∧ (~~~T.named).extractLsb' 0 32 = rsvd := by
  have packed : T.named = (packedMask ds).setWidth 128 := hfields ▸ foldr_slotMask_eq_packedMask T.fields
  exact ⟨packed.trans hnamed, hfields, by rw [packed, not_setWidth_low_word, hrsvd]⟩

/-- Settles O43: `typeMasks` at each of the types. -/
theorem registerTypeMasks : Obligations.RegisterTypeMasks := by
  refine ⟨?_, ?_, ?_, ?_, ?_, ?_, ?_, ?_, ?_, ?_, ?_, ?_, ?_, ?_, ?_, ?_, ?_, ?_⟩ <;> exact typeMasks rfl rfl rfl

end Sys2Proof.Machine
end
